-- ==== Sys2Proof/Word.lean ====
section
/-! DEFINITION. The word types of the block: the 32-bit bus word, the byte, the 17-bit bus address (spec/00_scope.md R7). -/

namespace Sys2Proof

/-- A host bus data word (R7 HOST_DATA_BITS). -/
abbrev Word := BitVec 32

/-- A codeword: "an 8-bit byte" (R13). -/
abbrev Byte := BitVec 8

/-- A host byte address, relative to the block's base (R7 HOST_ADDR_BITS, R542). -/
abbrev Addr := BitVec 17

end Sys2Proof
end

