-- ==== Sys2Proof/Config.lean ====
section
/-! DEFINITION. The fixed implementation parameters of spec/00_scope.md R7. Every open parameter of the spec is data
elsewhere: the power-on draw and the order of moves are lists (log entries 1, 2, 6), KANJI_TABLE is an argument (13),
BLOCK_BASE is subtracted before an address reaches the model (8). -/

namespace Sys2Proof.Config

/-- The constant ID register (spec/10_state.md R51). -/
def idWord : Word := 0x51520007#32

/-- VERSION_MIN (R7). -/
def versionMin : Nat := 1

/-- VERSION_MAX (R7). -/
def versionMax : Nat := 40

/-- BUF_BYTES: entries of MSG, ECC and CW each (R7). -/
def bufBytes : Nat := 4096

/-- GRID_CELLS: cells of GRID and BEST each (R7). -/
def gridCells : Nat := 32768

/-- RS_DEGREE_MAX (R7). -/
def rsDegreeMax : Nat := 30

end Sys2Proof.Config
end

