-- ==== Sys2Proof/Syntax.lean ====
section
/-! DEFINITION. The commands of the block: one constructor per row of spec/opcode_table.json (spec/30_encoding.md R151).
A command word has no operand fields (R150): every operand comes from the registers latched at launch (R152, R160). -/

namespace Sys2Proof

/-- The 21 commands of R151, in the table's order. -/
inductive Instr where
  /-- NOP, 0x00 (R440). -/
  | nop
  /-- CAP_CHARS, 0x10 (R201). -/
  | capChars
  /-- CAP_GEOM, 0x11 (R202). -/
  | capGeom
  /-- CAP_INFO, 0x12 (R203). -/
  | capInfo
  /-- CAP_CCI, 0x13 (R204). -/
  | capCci
  /-- CAP_FMT, 0x14 (R205). -/
  | capFmt
  /-- CAP_VER, 0x15 (R206). -/
  | capVer
  /-- GF_MUL, 0x20 (R260). -/
  | gfMul
  /-- GF_LOG, 0x21 (R261). -/
  | gfLog
  /-- GF_EXP, 0x22 (R262). -/
  | gfExp
  /-- GF_GEN, 0x23 (R263). -/
  | gfGen
  /-- RS_BLOCK, 0x24 (R264). -/
  | rsBlock
  /-- RS_ENCODE, 0x25 (R265). -/
  | rsEncode
  /-- INTERLEAVE, 0x26 (R266). -/
  | interleave
  /-- BUILD_FUNC, 0x30 (R332). -/
  | buildFunc
  /-- PLACE_DATA, 0x31 (R341). -/
  | placeData
  /-- FREE_COUNT, 0x32 (R342). -/
  | freeCount
  /-- MASK_APPLY, 0x40 (R402). -/
  | maskApply
  /-- MASK_SCORE, 0x41 (R403). -/
  | maskScore
  /-- MASK_SELECT, 0x42 (R410). -/
  | maskSelect
  /-- ENCODE, 0x50 (R441). -/
  | encode
  deriving DecidableEq, Repr

end Sys2Proof
end

