-- ==== Sys2Proof/WellFormed.lean ====
section
/-! DEFINITION. Well-formedness. A command has no fields, so every `Instr` is well formed; what the spec can call ill
formed is a command WORD (spec/30_encoding.md R150, R153, R154). The range checks of latched operands (R160) raise
errors at completion and stand with the meanings that make them, in Machine/Operands.lean. -/

namespace Sys2Proof

/-- The assigned opcodes of R151. -/
def assignedOpcodes : List Nat :=
  [ 0x00, 0x10, 0x11, 0x12, 0x13, 0x14, 0x15, 0x20, 0x21, 0x22, 0x23, 0x24, 0x25, 0x26,
    0x30, 0x31, 0x32, 0x40, 0x41, 0x42, 0x50 ]

/-- The ZERO field, bits 31:8, is 0 (R150). -/
def zeroFieldOk (w : Word) : Bool := w.toNat / 256 == 0

/-- The OPC field, bits 7:0, is assigned (R151, R154). -/
def opcodeOk (w : Word) : Bool := assignedOpcodes.contains (w.toNat % 256)

/-- A word is a legal command exactly when both checks hold (R153, R508). -/
def wordWf (w : Word) : Bool := zeroFieldOk w && opcodeOk w

/-- A command carries no field that could be out of range (R150: "no register specifiers and no immediates"). -/
def Instr.wf : Instr → Bool
  | .nop | .capChars | .capGeom | .capInfo | .capCci | .capFmt | .capVer => true
  | .gfMul | .gfLog | .gfExp | .gfGen | .rsBlock | .rsEncode | .interleave => true
  | .buildFunc | .placeData | .freeCount | .maskApply | .maskScore | .maskSelect | .encode => true

end Sys2Proof
end

