-- ==== Sys2Proof/Decode.lean ====
section
/-! DEFINITION. The decoder and the encoder of command words (spec/30_encoding.md R150 to R154). -/

namespace Sys2Proof

/-- Why bits are no command. The machine reports the first two as ILLEGAL_CMD (R153); `truncated` is raised only by
`decodeBytes` on fewer than four bytes. -/
inductive DecodeError where
  /-- Bits 31:8 are not zero (R150). -/
  | zeroFieldSet
  /-- OPC is one of the 235 unassigned opcodes (R154). -/
  | unassignedOpcode (opc : Nat)
  /-- Fewer than four bytes. -/
  | truncated
  deriving DecidableEq, Repr

/-- The opcode map of R151. -/
def opcodeMap : List (Nat × Instr) :=
  [ (0x00, .nop),
    (0x10, .capChars), (0x11, .capGeom), (0x12, .capInfo), (0x13, .capCci), (0x14, .capFmt), (0x15, .capVer),
    (0x20, .gfMul), (0x21, .gfLog), (0x22, .gfExp), (0x23, .gfGen),
    (0x24, .rsBlock), (0x25, .rsEncode), (0x26, .interleave),
    (0x30, .buildFunc), (0x31, .placeData), (0x32, .freeCount),
    (0x40, .maskApply), (0x41, .maskScore), (0x42, .maskSelect),
    (0x50, .encode) ]

/-- First row of an opcode list with the given opcode. -/
def lookupOpcode (opc : Nat) : List (Nat × Instr) → Option Instr
  | [] => none
  | (o, i) :: rows => if o == opc then some i else lookupOpcode opc rows

/-- Decode a command word: ZERO must be 0 and OPC assigned (R150, R151, R153). -/
def decode (w : Word) : Except DecodeError Instr :=
  if zeroFieldOk w then
    match lookupOpcode (w.toNat % 256) opcodeMap with
    | some i => .ok i
    | none => .error (.unassignedOpcode (w.toNat % 256))
  else .error .zeroFieldSet

/-- The word whose bytes lie at four rising addresses: the bus is little-endian (spec/20_memory.md R102). -/
def wordOfBytes (b0 b1 b2 b3 : Byte) : Word :=
  BitVec.ofNat 32 (b0.toNat + 256 * b1.toNat + 65536 * b2.toNat + 16777216 * b3.toNat)

/-- Decode the command at the head of a byte list, with the rest of the list: every command is one word (R150). -/
def decodeBytes : List Byte → Except DecodeError (Instr × List Byte)
  | b0 :: b1 :: b2 :: b3 :: rest =>
    match decode (wordOfBytes b0 b1 b2 b3) with
    | .ok i => .ok (i, rest)
    | .error e => .error e
  | _ => .error .truncated

/-- The opcode of a command (R151). -/
def opcode : Instr → Nat
  | .nop => 0x00
  | .capChars => 0x10
  | .capGeom => 0x11
  | .capInfo => 0x12
  | .capCci => 0x13
  | .capFmt => 0x14
  | .capVer => 0x15
  | .gfMul => 0x20
  | .gfLog => 0x21
  | .gfExp => 0x22
  | .gfGen => 0x23
  | .rsBlock => 0x24
  | .rsEncode => 0x25
  | .interleave => 0x26
  | .buildFunc => 0x30
  | .placeData => 0x31
  | .freeCount => 0x32
  | .maskApply => 0x40
  | .maskScore => 0x41
  | .maskSelect => 0x42
  | .encode => 0x50

/-- The command word of a command: OPC in bits 7:0, zeros above (R150). -/
def encode (i : Instr) : Word := BitVec.ofNat 32 (opcode i)

/-- The four bytes of a bus word, lowest address first (spec/20_memory.md R102). -/
def bytesOfWord (w : Word) : List Byte :=
  [BitVec.ofNat 8 w.toNat, BitVec.ofNat 8 (w.toNat / 256), BitVec.ofNat 8 (w.toNat / 65536),
    BitVec.ofNat 8 (w.toNat / 16777216)]

/-- The instruction the decoder reads from the opcode table's bits: `nbits` bits of `w`, zeros above, laid out as the
bus stores a word. Bits a 32-bit command word cannot hold are refused. -/
def decodeTableWord (nbits w : Nat) : Option Instr :=
  let v := w % 2 ^ nbits
  if v < 4294967296 then
    match decodeBytes (bytesOfWord (BitVec.ofNat 32 v)) with
    | .ok (i, _) => some i
    | .error _ => none
  else none

end Sys2Proof
end

