-- ==== Sys2Proof/Machine/State.lean ====
section
/-! DEFINITION. The state of the block as plain data (spec/10_state.md R50 to R81), its reset (spec/70_reset_and_hazards.md
R551, R552), and the reasons a step can stop. -/

namespace Sys2Proof.Machine

/-- CTRL's stored fields (R52). SOFT_RESET is an action and holds nothing. -/
structure Ctrl where
  /-- Bit 0. -/
  ieDone : Bool
  /-- Bit 1. -/
  ieErr : Bool
  deriving DecidableEq, Repr

/-- STATUS's stored fields (R53). BUSY is not here: it is 1 exactly while PEND exists (R78), see `State.busy`. -/
structure Status where
  /-- Bit 1, W1C. -/
  done : Bool
  /-- Bit 2, W1C. -/
  err : Bool
  /-- Bit 3, W1C, sticky. -/
  overrun : Bool
  /-- Bit 4, W1C, sticky. -/
  locked : Bool
  /-- Bit 5 (R79). -/
  outValid : Bool
  /-- Bits 15:8 (spec/60_exceptions.md R501). -/
  errCode : BitVec 8
  deriving DecidableEq, Repr

/-- RES0 to RES3 (R59). -/
structure Results where
  r0 : Word
  r1 : Word
  r2 : Word
  r3 : Word
  deriving DecidableEq, Repr

/-- PEN_TOTAL and PEN_N1 to PEN_N4 (R61). -/
structure Penalties where
  total : Word
  n1 : Word
  n2 : Word
  n3 : Word
  n4 : Word
  deriving DecidableEq, Repr

/-- PEN_M0 to PEN_M7 (R62). -/
structure MaskTotals where
  m0 : Word
  m1 : Word
  m2 : Word
  m3 : Word
  m4 : Word
  m5 : Word
  m6 : Word
  m7 : Word
  deriving DecidableEq, Repr

/-- PEND, the pending-command record: the command word and the operands latched at launch (R78, spec/30_encoding.md R152). -/
structure Pend where
  word : Word
  version : BitVec 6
  level : BitVec 2
  arg0 : Word
  arg1 : Word
  arg2 : Word
  cwBits : BitVec 16
  deriving DecidableEq, Repr

/-- The contents of the five buffers, keyed by bus byte address: MSG, ECC and CW bytes and GRID and BEST cells stand at
the addresses of their windows (spec/20_memory.md R101; log entry 10). Canonical form: `Memory.wf` in Machine/Ops.lean. -/
abbrev Memory := List Host.Cell

/-- One move of an agent (spec/00_scope.md R14): a host transaction, the engine's turn, or the platform's hardware reset. -/
inductive Event where
  /-- A host read transaction (spec/20_memory.md R104). -/
  | read (a : Addr)
  /-- A host write transaction (R104). -/
  | write (a : Addr) (d : Word)
  /-- The engine's turn: its completion step, where one is enabled (R78). -/
  | engine
  /-- A hardware reset, with the buffer contents the platform leaves that differ from those before (R552); log entry 6. -/
  | hardReset (draw : List Host.Cell)
  deriving DecidableEq, Repr

/-- The whole state of the block, and last two fields of the model's own. -/
structure State where
  /-- CTRL (R52). -/
  ctrl : Ctrl
  /-- STATUS but for BUSY (R53). -/
  status : Status
  /-- LAST_CMD (R54). -/
  lastCmd : Word
  /-- VERSION.V (R55). -/
  version : BitVec 6
  /-- LEVEL.LV (R56). -/
  level : BitVec 2
  /-- ARG0 (R57). -/
  arg0 : Word
  /-- ARG1 (R57). -/
  arg1 : Word
  /-- ARG2 (R57). -/
  arg2 : Word
  /-- CW_BITS (R58). -/
  cwBits : BitVec 16
  /-- RES0 to RES3 (R59). -/
  res : Results
  /-- BEST_MASK (R60). -/
  bestMask : BitVec 3
  /-- PEN_TOTAL, PEN_N1 to PEN_N4 (R61). -/
  pen : Penalties
  /-- PEN_M0 to PEN_M7 (R62). -/
  penM : MaskTotals
  /-- PEND: `none` is the spec's own "no command pending" (R78). -/
  pend : Option Pend
  /-- MSG, ECC, CW, GRID, BEST (R70 to R75). -/
  mem : Memory
  /-- The model's own: the moves still to be made, first move first (log entry 2). -/
  script : List Event
  /-- The model's own: the data the host's reads returned, newest first (log entry 3). -/
  hostLog : List Word
  deriving DecidableEq, Repr

/-- Why the model's machine stops. The block itself never does (spec/60_exceptions.md R500, R521, R535). -/
inductive Fault where
  /-- Raised by `exec` asked to complete a command in a state with no PEND: the completion step is enabled only while
  BUSY = 1 (R78), so the spec gives no such step. `step` never raises it. Safe (log entry 5). -/
  | nothingPending
  deriving DecidableEq, Repr

/-- Why the model's machine refuses an instruction. -/
inductive Refusal where
  /-- An instruction without a meaning yet; raised by an arm of `exec` only. No arm raises it now. Safe. -/
  | notModelled (mnemonic : String)
  deriving DecidableEq, Repr

/-- CTRL after reset (R551). -/
def Ctrl.reset : Ctrl := ⟨false, false⟩

/-- STATUS after reset (R551). -/
def Status.reset : Status := ⟨false, false, false, false, false, 0#8⟩

/-- RES0 to RES3 after reset (R551). -/
def Results.reset : Results := ⟨0#32, 0#32, 0#32, 0#32⟩

/-- PEN_TOTAL and PEN_N1 to PEN_N4 after reset (R551). -/
def Penalties.reset : Penalties := ⟨0#32, 0#32, 0#32, 0#32, 0#32⟩

/-- PEN_M0 to PEN_M7 after reset (R551). -/
def MaskTotals.reset : MaskTotals := ⟨0#32, 0#32, 0#32, 0#32, 0#32, 0#32, 0#32, 0#32⟩

/-- The block right after a hardware reset at power-on (R551). DESIGN CHOICE, unsafe: the spec leaves the buffers a draw
(R552); this state lists none of their contents, so that they read 0 (log entry 1). Every other draw is `State.powerOn`. -/
def State.reset : State where
  ctrl := Ctrl.reset
  status := Status.reset
  lastCmd := 0#32
  version := 1#6
  level := 0#2
  arg0 := 0#32
  arg1 := 0#32
  arg2 := 0#32
  cwBits := 0#16
  res := Results.reset
  bestMask := 0#3
  pen := Penalties.reset
  penM := MaskTotals.reset
  pend := none
  mem := []
  script := []
  hostLog := []

end Sys2Proof.Machine
end

