-- ==== Sys2Proof/Machine/Flags.lean ====
section
/-! DEFINITION. STATUS, CTRL and IRQ: the words a host reads, and every change of a STATUS field
(spec/10_state.md R52, R53, R64, R79; spec/60_exceptions.md R501, R510, R520; spec/30_encoding.md R152). -/

namespace Sys2Proof.Machine

/-- The error names of spec/60_exceptions.md R501. -/
inductive ErrorCode where
  | illegalCmd
  | badVersion
  | badArg
  | gfLogZero
  | badCell
  | placeMismatch
  | gridIncomplete
  deriving DecidableEq, Repr

/-- STATUS.ERR_CODE values (R501). -/
def ErrorCode.code : ErrorCode → BitVec 8
  | .illegalCmd => 0x01#8
  | .badVersion => 0x02#8
  | .badArg => 0x03#8
  | .gfLogZero => 0x04#8
  | .badCell => 0x05#8
  | .placeMismatch => 0x06#8
  | .gridIncomplete => 0x07#8

/-- STATUS.BUSY: PEND exists exactly while BUSY = 1 (R78; log entry 9). -/
def State.busy (s : State) : Bool := s.pend.isSome

/-- STATUS as a host reads it, bit 31 first (R53). -/
def Status.toWord (t : Status) (busy : Bool) : Word :=
  0#16 ++ t.errCode ++ 0#2 ++ BitVec.ofBool t.outValid ++ BitVec.ofBool t.locked ++ BitVec.ofBool t.overrun
    ++ BitVec.ofBool t.err ++ BitVec.ofBool t.done ++ BitVec.ofBool busy

/-- CTRL as a host reads it: SOFT_RESET and the reserved bits read 0 (R52). -/
def Ctrl.toWord (c : Ctrl) : Word := 0#30 ++ BitVec.ofBool c.ieErr ++ BitVec.ofBool c.ieDone

/-- IRQ, a function of state (R64, R520). -/
def State.irq (s : State) : Bool := (s.status.done && s.ctrl.ieDone) || (s.status.err && s.ctrl.ieErr)

/-- A host write of `d` to STATUS: the W1C bits written 1 clear; ERR takes ERR_CODE with it (R53). -/
def Status.clearedBy (t : Status) (d : Word) : Status where
  done := t.done && !d.getLsbD 1
  err := t.err && !d.getLsbD 2
  overrun := t.overrun && !d.getLsbD 3
  locked := t.locked && !d.getLsbD 4
  outValid := t.outValid
  errCode := if d.getLsbD 2 then 0#8 else t.errCode

/-- Launch clears DONE, ERR and ERR_CODE (R152); OVERRUN, LOCKED and OUT_VALID are sticky. -/
def Status.launched (t : Status) : Status := { t with done := false, err := false, errCode := 0#8 }

/-- Completion without error: "STATUS.DONE <- 1 ; ERR and ERR_CODE stay 0" (R510). -/
def Status.completed (t : Status) : Status := { t with done := true }

/-- Completion with an error (R510). -/
def Status.failed (t : Status) (e : ErrorCode) : Status := { t with err := true, errCode := e.code }

end Sys2Proof.Machine
end

