-- ==== Sys2Proof/Machine/Ops.lean ====
section
/-! DEFINITION. The named operations over memory and registers: the buffers, launch, completion with and without error,
the two resets. -/

namespace Sys2Proof.Machine

/-! ### Memory -/

/-- What an address nothing has listed reads as. DESIGN CHOICE (log entry 1): the spec leaves it a draw (R552). -/
def Memory.unlisted : Byte := 0#8

/-- The byte at an address. -/
def Memory.read : Memory → Nat → Byte
  | [], _ => Memory.unlisted
  | (a, b) :: m, k => if a = k then b else Memory.read m k

/-- The `2 ^ k` bytes from address `a` up: the lower half from the entries below its end, the upper half from the rest. -/
def Memory.readPow : Nat → Memory → Nat → List Byte
  | 0, m, a => [m.read a]
  | k + 1, m, a =>
    Memory.readPow k (m.filter fun c => Nat.blt c.1 (a + 2 ^ k)) a
      ++ Memory.readPow k (m.filter fun c => Nat.ble (a + 2 ^ k) c.1) (a + 2 ^ k)

/-- `n` bytes from address `a` up, halved so that it evaluates fast; `Memory.readRange_eq` in Laws/Memory.lean says that it
is `read` at `a`, `a + 1`, …, `a + n − 1` in every memory. -/
def Memory.readRange (m : Memory) (a n : Nat) : List Byte := (Memory.readPow (Nat.log2 n + 1) m a).take n

/-- The entries that bytes at `a`, `a + 1`, … need: one for each byte that an unlisted address does not read as. -/
def Memory.listed : Nat → List Byte → Memory
  | _, [] => []
  | a, b :: bs => if b = Memory.unlisted then Memory.listed (a + 1) bs else (a, b) :: Memory.listed (a + 1) bs

/-- Write bytes at `a`, `a + 1`, …; everything below and above stays. -/
def Memory.writeRange (m : Memory) (a : Nat) (bs : List Byte) : Memory :=
  (m.filter fun c => Nat.blt c.1 a) ++ (Memory.listed a bs ++ m.filter fun c => Nat.ble (a + bs.length) c.1)

/-- The canonical form: addresses strictly rising, no entry equal to what an unlisted address reads as. -/
abbrev Memory.wf (m : Memory) : Prop := m.Pairwise (fun c d => c.1 < d.1) ∧ ∀ c ∈ m, c.2 ≠ Memory.unlisted

/-! ### The five buffers (spec/10_state.md R70 to R75, spec/20_memory.md R101) -/

/-- The buffers. -/
inductive Buf where
  | msg
  | ecc
  | cw
  | grid
  | best
  deriving DecidableEq, Repr

/-- First bus address of a buffer's window (R101). -/
def Buf.base : Buf → Nat
  | .msg => 0x01000
  | .ecc => 0x02000
  | .cw => 0x03000
  | .grid => 0x08000
  | .best => 0x10000

/-- Entries of a buffer (spec/00_scope.md R7). -/
def Buf.size : Buf → Nat
  | .msg | .ecc | .cw => Config.bufBytes
  | .grid | .best => Config.gridCells

/-- Whether a buffer holds 3-bit cells rather than bytes (R71, R72, R73). -/
def Buf.isCells : Buf → Bool
  | .msg | .ecc | .cw => false
  | .grid | .best => true

/-- What a buffer's entry keeps of a byte lane: all of it, or bits 2:0 (R106, R107). -/
def Buf.lane (b : Buf) (x : Byte) : Byte := if b.isCells then x &&& 7#8 else x

/-- The buffer whose window holds a bus address, if any (R101). -/
def bufAt (a : Nat) : Option Buf :=
  if 0x01000 ≤ a ∧ a < 0x02000 then some .msg
  else if 0x02000 ≤ a ∧ a < 0x03000 then some .ecc
  else if 0x03000 ≤ a ∧ a < 0x04000 then some .cw
  else if 0x08000 ≤ a ∧ a < 0x10000 then some .grid
  else if 0x10000 ≤ a ∧ a < 0x18000 then some .best
  else none

/-- MemRead of `n` entries of a buffer from offset `off` (spec/00_scope.md R11). -/
def State.readBuf (s : State) (b : Buf) (off n : Nat) : List Byte := s.mem.readRange (b.base + off) n

/-- MemWrite of entries of a buffer from offset `off` (R11). -/
def State.writeBuf (s : State) (b : Buf) (off : Nat) (bs : List Byte) : State :=
  { s with mem := s.mem.writeRange (b.base + off) bs }

/-! ### Registers that commands write -/

/-- A command of the capacity or GF family or FREE_COUNT writes all four RES registers (R59, R162). -/
def State.setResults (s : State) (r0 r1 r2 r3 : Word) : State := { s with res := ⟨r0, r1, r2, r3⟩ }

/-- CW_BITS (R58): the register holds 16 bits. -/
def State.setCwBits (s : State) (n : Nat) : State := { s with cwBits := BitVec.ofNat 16 n }

/-- STATUS.OUT_VALID (R79). -/
def State.setOutValid (s : State) (b : Bool) : State := { s with status := { s.status with outValid := b } }

/-! ### Launch and completion -/

/-- The launch of word `w` (spec/30_encoding.md R152): LAST_CMD, PEND and STATUS in one step. -/
def State.launch (s : State) (w : Word) : State :=
  { s with
    lastCmd := w
    pend := some
      { word := w, version := s.version, level := s.level, arg0 := s.arg0, arg1 := s.arg1, arg2 := s.arg2,
        cwBits := s.cwBits }
    status := s.status.launched }

/-- What a command's rule gives: its effects made, or an error with whatever effects stand by then (none, but for the
stages before a failing stage of ENCODE; spec/60_exceptions.md R509, spec/92_eei_decisions.md D40). -/
inductive CmdResult where
  | done (s : State)
  | failed (e : ErrorCode) (s : State)
  deriving DecidableEq, Repr

/-- Run the next stage on the state of the stage before, if that did not fail (spec/44_control.md R441). -/
def CmdResult.andThen (r : CmdResult) (f : State → CmdResult) : CmdResult :=
  match r with
  | .done s => f s
  | .failed e s => .failed e s

/-- Completion without error (R510): BUSY 0, DONE 1, PEND gone. -/
def State.completeOk (s : State) : State := { s with status := s.status.completed, pend := none }

/-- Completion with an error (R510), the block's one way of taking an exception (R535): BUSY 0, ERR 1, ERR_CODE, PEND gone. -/
def State.completeErr (s : State) (e : ErrorCode) : State := { s with status := s.status.failed e, pend := none }

/-- Completion status update (R510). -/
def CmdResult.complete : CmdResult → State
  | .done s => s.completeOk
  | .failed e s => s.completeErr e

/-- Complete the pending command by its rule: operands come from PEND, never from the live registers (R152). -/
def State.runCommand (s : State) (body : Pend → State → CmdResult) : Host.Outcome State Fault Refusal :=
  match s.pend with
  | none => .fault .nothingPending
  | some p => .next (body p s).complete

/-! ### Reset (spec/70_reset_and_hazards.md R550 to R553) -/

/-- All registers of R551 at their reset values, PEND gone; buffers and the model's own fields unchanged (R553). -/
def State.softReset (s : State) : State :=
  { State.reset with mem := s.mem, script := s.script, hostLog := s.hostLog }

/-- One byte of a draw, stored in the buffer whose window holds its address, as wide as that buffer's entries. -/
def Memory.drawOne (m : Memory) (c : Host.Cell) : Memory :=
  match bufAt c.1 with
  | some b => m.writeRange c.1 [b.lane c.2]
  | none => m

/-- Buffer contents after a hardware reset: those before, overwritten by the draw (R552; log entry 6). -/
def Memory.drawn (m : Memory) (draw : List Host.Cell) : Memory := draw.foldl Memory.drawOne m

/-- A hardware reset (R550 to R552). -/
def State.hardReset (s : State) (draw : List Host.Cell) : State :=
  { s.softReset with mem := s.mem.drawn draw }

/-- The block right after power-on, for any draw of the buffers (R552); `State.reset` is the draw that lists nothing. -/
def State.powerOn (draw : List Host.Cell) : State := { State.reset with mem := Memory.drawn [] draw }

end Sys2Proof.Machine
end

