-- ==== Sys2Proof/Machine/Operands.lean ====
section
/-! DEFINITION. Every operand form of the commands: the fields of the latched registers (spec/30_encoding.md R160, R161),
their range checks, and the packing of results (R162). -/

namespace Sys2Proof.Machine

/-! ### Fields (R160): unsigned, zero-extended, other bits ignored -/

/-- mode = ARG0[1:0]. -/
def Pend.mode (p : Pend) : Nat := (p.arg0.extractLsb' 0 2).toNat

/-- mask = ARG0[2:0]. -/
def Pend.mask (p : Pend) : Nat := (p.arg0.extractLsb' 0 3).toNat

/-- a (GF_MUL, GF_LOG), e (GF_EXP), n (GF_GEN) = ARG0[7:0]. -/
def Pend.arg0Lo (p : Pend) : Byte := p.arg0.extractLsb' 0 8

/-- b (GF_MUL), j (GF_GEN) = ARG0[15:8]. -/
def Pend.arg0Hi (p : Pend) : Byte := p.arg0.extractLsb' 8 8

/-- src = ARG0[11:0] (RS_BLOCK). -/
def Pend.src (p : Pend) : Nat := (p.arg0.extractLsb' 0 12).toNat

/-- len = ARG1[7:0] (RS_BLOCK). -/
def Pend.len (p : Pend) : Nat := (p.arg1.extractLsb' 0 8).toNat

/-- n = ARG1[15:8] (RS_BLOCK). -/
def Pend.degree (p : Pend) : Nat := (p.arg1.extractLsb' 8 8).toNat

/-- dst = ARG2[11:0] (RS_BLOCK). -/
def Pend.dst (p : Pend) : Nat := (p.arg2.extractLsb' 0 12).toNat

/-- The latched VERSION.V (R161). -/
def Pend.v (p : Pend) : Nat := p.version.toNat

/-- The latched LEVEL.LV: 0 L, 1 M, 2 Q, 3 H (spec/10_state.md R56). -/
def Pend.lv (p : Pend) : Nat := p.level.toNat

/-! ### Range checks -/

/-- 1 ≤ V ≤ 40 (R161, spec/60_exceptions.md R502). -/
def versionOk (v : Nat) : Bool := Nat.ble Config.versionMin v && Nat.ble v Config.versionMax

/-- A degree the GEN ROM holds (R160, spec/60_exceptions.md R503). -/
def degreeOk (n : Nat) : Bool := Nat.ble 1 n && Nat.ble n Config.rsDegreeMax

/-- GF_GEN's operands (R160): 1 ≤ n ≤ 30 and j ≤ n. -/
def genArgsOk (n j : Nat) : Bool := degreeOk n && Nat.ble j n

/-- RS_BLOCK's operands (R160): 1 ≤ n ≤ 30, src + len ≤ 4096, dst + n ≤ 4096. -/
def blockArgsOk (src len n dst : Nat) : Bool :=
  degreeOk n && (Nat.ble (src + len) Config.bufBytes && Nat.ble (dst + n) Config.bufBytes)

/-- The first check of every command that reads VERSION (R161, R502, R530). -/
def checkVersion (p : Pend) (s : State) (k : CmdResult) : CmdResult :=
  if versionOk p.v then k else .failed .badVersion s

/-! ### Packing of results (R162) -/

/-- `{ zext_16 hi, zext_16 lo }`. -/
def pack16 (hi lo : Nat) : Word := BitVec.ofNat 32 ((hi % 65536) * 65536 + lo % 65536)

/-- `{ b3, b2, b1, b0 }`, one byte each. -/
def pack8 (b3 b2 b1 b0 : Nat) : Word :=
  BitVec.ofNat 32 ((b3 % 256) * 16777216 + (b2 % 256) * 65536 + (b1 % 256) * 256 + b0 % 256)

end Sys2Proof.Machine
end

