-- ==== Sys2Proof/Machine/RomCapacity.lean ====
section
/-! DEFINITION. The capacity ROM: capacity, geometry and symbol constants, character-count-indicator widths and mode
indicators (spec/40_capacity_lut.md R210 to R214). The rows are R212's, in its column order. -/

namespace Sys2Proof.Machine

/-- A CapacityEntry (R210), with every column of R212 but level and version. -/
structure CapEntry where
  size : Nat
  totalCW : Nat
  dataCW : Nat
  g1Blocks : Nat
  g1Data : Nat
  g2Blocks : Nat
  g2Data : Nat
  ec : Nat
  blocks : Nat
  rem : Nat
  numeric : Nat
  alnum : Nat
  byte : Nat
  kanji : Nat
  deriving DecidableEq, Repr

/-- R212, level L, entries 1 to 10. -/
def capL1 : List CapEntry :=
  [ ⟨21, 26, 19, 1, 19, 0, 0, 7, 1, 0, 41, 25, 17, 10⟩,
    ⟨25, 44, 34, 1, 34, 0, 0, 10, 1, 7, 77, 47, 32, 20⟩,
    ⟨29, 70, 55, 1, 55, 0, 0, 15, 1, 7, 127, 77, 53, 32⟩,
    ⟨33, 100, 80, 1, 80, 0, 0, 20, 1, 7, 187, 114, 78, 48⟩,
    ⟨37, 134, 108, 1, 108, 0, 0, 26, 1, 7, 255, 154, 106, 65⟩,
    ⟨41, 172, 136, 2, 68, 0, 0, 18, 2, 7, 322, 195, 134, 82⟩,
    ⟨45, 196, 156, 2, 78, 0, 0, 20, 2, 0, 370, 224, 154, 95⟩,
    ⟨49, 242, 194, 2, 97, 0, 0, 24, 2, 0, 461, 279, 192, 118⟩,
    ⟨53, 292, 232, 2, 116, 0, 0, 30, 2, 0, 552, 335, 230, 141⟩,
    ⟨57, 346, 274, 2, 68, 2, 69, 18, 4, 0, 652, 395, 271, 167⟩ ]

/-- R212, level L, entries 11 to 20. -/
def capL2 : List CapEntry :=
  [ ⟨61, 404, 324, 4, 81, 0, 0, 20, 4, 0, 772, 468, 321, 198⟩,
    ⟨65, 466, 370, 2, 92, 2, 93, 24, 4, 0, 883, 535, 367, 226⟩,
    ⟨69, 532, 428, 4, 107, 0, 0, 26, 4, 0, 1022, 619, 425, 262⟩,
    ⟨73, 581, 461, 3, 115, 1, 116, 30, 4, 3, 1101, 667, 458, 282⟩,
    ⟨77, 655, 523, 5, 87, 1, 88, 22, 6, 3, 1250, 758, 520, 320⟩,
    ⟨81, 733, 589, 5, 98, 1, 99, 24, 6, 3, 1408, 854, 586, 361⟩,
    ⟨85, 815, 647, 1, 107, 5, 108, 28, 6, 3, 1548, 938, 644, 397⟩,
    ⟨89, 901, 721, 5, 120, 1, 121, 30, 6, 3, 1725, 1046, 718, 442⟩,
    ⟨93, 991, 795, 3, 113, 4, 114, 28, 7, 3, 1903, 1153, 792, 488⟩,
    ⟨97, 1085, 861, 3, 107, 5, 108, 28, 8, 3, 2061, 1249, 858, 528⟩ ]

/-- R212, level L, entries 21 to 30. -/
def capL3 : List CapEntry :=
  [ ⟨101, 1156, 932, 4, 116, 4, 117, 28, 8, 4, 2232, 1352, 929, 572⟩,
    ⟨105, 1258, 1006, 2, 111, 7, 112, 28, 9, 4, 2409, 1460, 1003, 618⟩,
    ⟨109, 1364, 1094, 4, 121, 5, 122, 30, 9, 4, 2620, 1588, 1091, 672⟩,
    ⟨113, 1474, 1174, 6, 117, 4, 118, 30, 10, 4, 2812, 1704, 1171, 721⟩,
    ⟨117, 1588, 1276, 8, 106, 4, 107, 26, 12, 4, 3057, 1853, 1273, 784⟩,
    ⟨121, 1706, 1370, 10, 114, 2, 115, 28, 12, 4, 3283, 1990, 1367, 842⟩,
    ⟨125, 1828, 1468, 8, 122, 4, 123, 30, 12, 4, 3517, 2132, 1465, 902⟩,
    ⟨129, 1921, 1531, 3, 117, 10, 118, 30, 13, 3, 3669, 2223, 1528, 940⟩,
    ⟨133, 2051, 1631, 7, 116, 7, 117, 30, 14, 3, 3909, 2369, 1628, 1002⟩,
    ⟨137, 2185, 1735, 5, 115, 10, 116, 30, 15, 3, 4158, 2520, 1732, 1066⟩ ]

/-- R212, level L, entries 31 to 40. -/
def capL4 : List CapEntry :=
  [ ⟨141, 2323, 1843, 13, 115, 3, 116, 30, 16, 3, 4417, 2677, 1840, 1132⟩,
    ⟨145, 2465, 1955, 17, 115, 0, 0, 30, 17, 3, 4686, 2840, 1952, 1201⟩,
    ⟨149, 2611, 2071, 17, 115, 1, 116, 30, 18, 3, 4965, 3009, 2068, 1273⟩,
    ⟨153, 2761, 2191, 13, 115, 6, 116, 30, 19, 3, 5253, 3183, 2188, 1347⟩,
    ⟨157, 2876, 2306, 12, 121, 7, 122, 30, 19, 0, 5529, 3351, 2303, 1417⟩,
    ⟨161, 3034, 2434, 6, 121, 14, 122, 30, 20, 0, 5836, 3537, 2431, 1496⟩,
    ⟨165, 3196, 2566, 17, 122, 4, 123, 30, 21, 0, 6153, 3729, 2563, 1577⟩,
    ⟨169, 3362, 2702, 4, 122, 18, 123, 30, 22, 0, 6479, 3927, 2699, 1661⟩,
    ⟨173, 3532, 2812, 20, 117, 4, 118, 30, 24, 0, 6743, 4087, 2809, 1729⟩,
    ⟨177, 3706, 2956, 19, 118, 6, 119, 30, 25, 0, 7089, 4296, 2953, 1817⟩ ]

/-- R212, level L, in groups of ten versions. -/
def capL : List (List CapEntry) := [capL1, capL2, capL3, capL4]

/-- R212, level M, entries 1 to 10. -/
def capM1 : List CapEntry :=
  [ ⟨21, 26, 16, 1, 16, 0, 0, 10, 1, 0, 34, 20, 14, 8⟩,
    ⟨25, 44, 28, 1, 28, 0, 0, 16, 1, 7, 63, 38, 26, 16⟩,
    ⟨29, 70, 44, 1, 44, 0, 0, 26, 1, 7, 101, 61, 42, 26⟩,
    ⟨33, 100, 64, 2, 32, 0, 0, 18, 2, 7, 149, 90, 62, 38⟩,
    ⟨37, 134, 86, 2, 43, 0, 0, 24, 2, 7, 202, 122, 84, 52⟩,
    ⟨41, 172, 108, 4, 27, 0, 0, 16, 4, 7, 255, 154, 106, 65⟩,
    ⟨45, 196, 124, 4, 31, 0, 0, 18, 4, 0, 293, 178, 122, 75⟩,
    ⟨49, 242, 154, 2, 38, 2, 39, 22, 4, 0, 365, 221, 152, 93⟩,
    ⟨53, 292, 182, 3, 36, 2, 37, 22, 5, 0, 432, 262, 180, 111⟩,
    ⟨57, 346, 216, 4, 43, 1, 44, 26, 5, 0, 513, 311, 213, 131⟩ ]

/-- R212, level M, entries 11 to 20. -/
def capM2 : List CapEntry :=
  [ ⟨61, 404, 254, 1, 50, 4, 51, 30, 5, 0, 604, 366, 251, 155⟩,
    ⟨65, 466, 290, 6, 36, 2, 37, 22, 8, 0, 691, 419, 287, 177⟩,
    ⟨69, 532, 334, 8, 37, 1, 38, 22, 9, 0, 796, 483, 331, 204⟩,
    ⟨73, 581, 365, 4, 40, 5, 41, 24, 9, 3, 871, 528, 362, 223⟩,
    ⟨77, 655, 415, 5, 41, 5, 42, 24, 10, 3, 991, 600, 412, 254⟩,
    ⟨81, 733, 453, 7, 45, 3, 46, 28, 10, 3, 1082, 656, 450, 277⟩,
    ⟨85, 815, 507, 10, 46, 1, 47, 28, 11, 3, 1212, 734, 504, 310⟩,
    ⟨89, 901, 563, 9, 43, 4, 44, 26, 13, 3, 1346, 816, 560, 345⟩,
    ⟨93, 991, 627, 3, 44, 11, 45, 26, 14, 3, 1500, 909, 624, 384⟩,
    ⟨97, 1085, 669, 3, 41, 13, 42, 26, 16, 3, 1600, 970, 666, 410⟩ ]

/-- R212, level M, entries 21 to 30. -/
def capM3 : List CapEntry :=
  [ ⟨101, 1156, 714, 17, 42, 0, 0, 26, 17, 4, 1708, 1035, 711, 438⟩,
    ⟨105, 1258, 782, 17, 46, 0, 0, 28, 17, 4, 1872, 1134, 779, 480⟩,
    ⟨109, 1364, 860, 4, 47, 14, 48, 28, 18, 4, 2059, 1248, 857, 528⟩,
    ⟨113, 1474, 914, 6, 45, 14, 46, 28, 20, 4, 2188, 1326, 911, 561⟩,
    ⟨117, 1588, 1000, 8, 47, 13, 48, 28, 21, 4, 2395, 1451, 997, 614⟩,
    ⟨121, 1706, 1062, 19, 46, 4, 47, 28, 23, 4, 2544, 1542, 1059, 652⟩,
    ⟨125, 1828, 1128, 22, 45, 3, 46, 28, 25, 4, 2701, 1637, 1125, 692⟩,
    ⟨129, 1921, 1193, 3, 45, 23, 46, 28, 26, 3, 2857, 1732, 1190, 732⟩,
    ⟨133, 2051, 1267, 21, 45, 7, 46, 28, 28, 3, 3035, 1839, 1264, 778⟩,
    ⟨137, 2185, 1373, 19, 47, 10, 48, 28, 29, 3, 3289, 1994, 1370, 843⟩ ]

/-- R212, level M, entries 31 to 40. -/
def capM4 : List CapEntry :=
  [ ⟨141, 2323, 1455, 2, 46, 29, 47, 28, 31, 3, 3486, 2113, 1452, 894⟩,
    ⟨145, 2465, 1541, 10, 46, 23, 47, 28, 33, 3, 3693, 2238, 1538, 947⟩,
    ⟨149, 2611, 1631, 14, 46, 21, 47, 28, 35, 3, 3909, 2369, 1628, 1002⟩,
    ⟨153, 2761, 1725, 14, 46, 23, 47, 28, 37, 3, 4134, 2506, 1722, 1060⟩,
    ⟨157, 2876, 1812, 12, 47, 26, 48, 28, 38, 0, 4343, 2632, 1809, 1113⟩,
    ⟨161, 3034, 1914, 6, 47, 34, 48, 28, 40, 0, 4588, 2780, 1911, 1176⟩,
    ⟨165, 3196, 1992, 29, 46, 14, 47, 28, 43, 0, 4775, 2894, 1989, 1224⟩,
    ⟨169, 3362, 2102, 13, 46, 32, 47, 28, 45, 0, 5039, 3054, 2099, 1292⟩,
    ⟨173, 3532, 2216, 40, 47, 7, 48, 28, 47, 0, 5313, 3220, 2213, 1362⟩,
    ⟨177, 3706, 2334, 18, 47, 31, 48, 28, 49, 0, 5596, 3391, 2331, 1435⟩ ]

/-- R212, level M, in groups of ten versions. -/
def capM : List (List CapEntry) := [capM1, capM2, capM3, capM4]

/-- R212, level Q, entries 1 to 10. -/
def capQ1 : List CapEntry :=
  [ ⟨21, 26, 13, 1, 13, 0, 0, 13, 1, 0, 27, 16, 11, 7⟩,
    ⟨25, 44, 22, 1, 22, 0, 0, 22, 1, 7, 48, 29, 20, 12⟩,
    ⟨29, 70, 34, 2, 17, 0, 0, 18, 2, 7, 77, 47, 32, 20⟩,
    ⟨33, 100, 48, 2, 24, 0, 0, 26, 2, 7, 111, 67, 46, 28⟩,
    ⟨37, 134, 62, 2, 15, 2, 16, 18, 4, 7, 144, 87, 60, 37⟩,
    ⟨41, 172, 76, 4, 19, 0, 0, 24, 4, 7, 178, 108, 74, 45⟩,
    ⟨45, 196, 88, 2, 14, 4, 15, 18, 6, 0, 207, 125, 86, 53⟩,
    ⟨49, 242, 110, 4, 18, 2, 19, 22, 6, 0, 259, 157, 108, 66⟩,
    ⟨53, 292, 132, 4, 16, 4, 17, 20, 8, 0, 312, 189, 130, 80⟩,
    ⟨57, 346, 154, 6, 19, 2, 20, 24, 8, 0, 364, 221, 151, 93⟩ ]

/-- R212, level Q, entries 11 to 20. -/
def capQ2 : List CapEntry :=
  [ ⟨61, 404, 180, 4, 22, 4, 23, 28, 8, 0, 427, 259, 177, 109⟩,
    ⟨65, 466, 206, 4, 20, 6, 21, 26, 10, 0, 489, 296, 203, 125⟩,
    ⟨69, 532, 244, 8, 20, 4, 21, 24, 12, 0, 580, 352, 241, 149⟩,
    ⟨73, 581, 261, 11, 16, 5, 17, 20, 16, 3, 621, 376, 258, 159⟩,
    ⟨77, 655, 295, 5, 24, 7, 25, 30, 12, 3, 703, 426, 292, 180⟩,
    ⟨81, 733, 325, 15, 19, 2, 20, 24, 17, 3, 775, 470, 322, 198⟩,
    ⟨85, 815, 367, 1, 22, 15, 23, 28, 16, 3, 876, 531, 364, 224⟩,
    ⟨89, 901, 397, 17, 22, 1, 23, 28, 18, 3, 948, 574, 394, 243⟩,
    ⟨93, 991, 445, 17, 21, 4, 22, 26, 21, 3, 1063, 644, 442, 272⟩,
    ⟨97, 1085, 485, 15, 24, 5, 25, 30, 20, 3, 1159, 702, 482, 297⟩ ]

/-- R212, level Q, entries 21 to 30. -/
def capQ3 : List CapEntry :=
  [ ⟨101, 1156, 512, 17, 22, 6, 23, 28, 23, 4, 1224, 742, 509, 314⟩,
    ⟨105, 1258, 568, 7, 24, 16, 25, 30, 23, 4, 1358, 823, 565, 348⟩,
    ⟨109, 1364, 614, 11, 24, 14, 25, 30, 25, 4, 1468, 890, 611, 376⟩,
    ⟨113, 1474, 664, 11, 24, 16, 25, 30, 27, 4, 1588, 963, 661, 407⟩,
    ⟨117, 1588, 718, 7, 24, 22, 25, 30, 29, 4, 1718, 1041, 715, 440⟩,
    ⟨121, 1706, 754, 28, 22, 6, 23, 28, 34, 4, 1804, 1094, 751, 462⟩,
    ⟨125, 1828, 808, 8, 23, 26, 24, 30, 34, 4, 1933, 1172, 805, 496⟩,
    ⟨129, 1921, 871, 4, 24, 31, 25, 30, 35, 3, 2085, 1263, 868, 534⟩,
    ⟨133, 2051, 911, 1, 23, 37, 24, 30, 38, 3, 2181, 1322, 908, 559⟩,
    ⟨137, 2185, 985, 15, 24, 25, 25, 30, 40, 3, 2358, 1429, 982, 604⟩ ]

/-- R212, level Q, entries 31 to 40. -/
def capQ4 : List CapEntry :=
  [ ⟨141, 2323, 1033, 42, 24, 1, 25, 30, 43, 3, 2473, 1499, 1030, 634⟩,
    ⟨145, 2465, 1115, 10, 24, 35, 25, 30, 45, 3, 2670, 1618, 1112, 684⟩,
    ⟨149, 2611, 1171, 29, 24, 19, 25, 30, 48, 3, 2805, 1700, 1168, 719⟩,
    ⟨153, 2761, 1231, 44, 24, 7, 25, 30, 51, 3, 2949, 1787, 1228, 756⟩,
    ⟨157, 2876, 1286, 39, 24, 14, 25, 30, 53, 0, 3081, 1867, 1283, 790⟩,
    ⟨161, 3034, 1354, 46, 24, 10, 25, 30, 56, 0, 3244, 1966, 1351, 832⟩,
    ⟨165, 3196, 1426, 49, 24, 10, 25, 30, 59, 0, 3417, 2071, 1423, 876⟩,
    ⟨169, 3362, 1502, 48, 24, 14, 25, 30, 62, 0, 3599, 2181, 1499, 923⟩,
    ⟨173, 3532, 1582, 43, 24, 22, 25, 30, 65, 0, 3791, 2298, 1579, 972⟩,
    ⟨177, 3706, 1666, 34, 24, 34, 25, 30, 68, 0, 3993, 2420, 1663, 1024⟩ ]

/-- R212, level Q, in groups of ten versions. -/
def capQ : List (List CapEntry) := [capQ1, capQ2, capQ3, capQ4]

/-- R212, level H, entries 1 to 10. -/
def capH1 : List CapEntry :=
  [ ⟨21, 26, 9, 1, 9, 0, 0, 17, 1, 0, 17, 10, 7, 4⟩,
    ⟨25, 44, 16, 1, 16, 0, 0, 28, 1, 7, 34, 20, 14, 8⟩,
    ⟨29, 70, 26, 2, 13, 0, 0, 22, 2, 7, 58, 35, 24, 15⟩,
    ⟨33, 100, 36, 4, 9, 0, 0, 16, 4, 7, 82, 50, 34, 21⟩,
    ⟨37, 134, 46, 2, 11, 2, 12, 22, 4, 7, 106, 64, 44, 27⟩,
    ⟨41, 172, 60, 4, 15, 0, 0, 28, 4, 7, 139, 84, 58, 36⟩,
    ⟨45, 196, 66, 4, 13, 1, 14, 26, 5, 0, 154, 93, 64, 39⟩,
    ⟨49, 242, 86, 4, 14, 2, 15, 26, 6, 0, 202, 122, 84, 52⟩,
    ⟨53, 292, 100, 4, 12, 4, 13, 24, 8, 0, 235, 143, 98, 60⟩,
    ⟨57, 346, 122, 6, 15, 2, 16, 28, 8, 0, 288, 174, 119, 74⟩ ]

/-- R212, level H, entries 11 to 20. -/
def capH2 : List CapEntry :=
  [ ⟨61, 404, 140, 3, 12, 8, 13, 24, 11, 0, 331, 200, 137, 85⟩,
    ⟨65, 466, 158, 7, 14, 4, 15, 28, 11, 0, 374, 227, 155, 96⟩,
    ⟨69, 532, 180, 12, 11, 4, 12, 22, 16, 0, 427, 259, 177, 109⟩,
    ⟨73, 581, 197, 11, 12, 5, 13, 24, 16, 3, 468, 283, 194, 120⟩,
    ⟨77, 655, 223, 11, 12, 7, 13, 24, 18, 3, 530, 321, 220, 136⟩,
    ⟨81, 733, 253, 3, 15, 13, 16, 30, 16, 3, 602, 365, 250, 154⟩,
    ⟨85, 815, 283, 2, 14, 17, 15, 28, 19, 3, 674, 408, 280, 173⟩,
    ⟨89, 901, 313, 2, 14, 19, 15, 28, 21, 3, 746, 452, 310, 191⟩,
    ⟨93, 991, 341, 9, 13, 16, 14, 26, 25, 3, 813, 493, 338, 208⟩,
    ⟨97, 1085, 385, 15, 15, 10, 16, 28, 25, 3, 919, 557, 382, 235⟩ ]

/-- R212, level H, entries 21 to 30. -/
def capH3 : List CapEntry :=
  [ ⟨101, 1156, 406, 19, 16, 6, 17, 30, 25, 4, 969, 587, 403, 248⟩,
    ⟨105, 1258, 442, 34, 13, 0, 0, 24, 34, 4, 1056, 640, 439, 270⟩,
    ⟨109, 1364, 464, 16, 15, 14, 16, 30, 30, 4, 1108, 672, 461, 284⟩,
    ⟨113, 1474, 514, 30, 16, 2, 17, 30, 32, 4, 1228, 744, 511, 315⟩,
    ⟨117, 1588, 538, 22, 15, 13, 16, 30, 35, 4, 1286, 779, 535, 330⟩,
    ⟨121, 1706, 596, 33, 16, 4, 17, 30, 37, 4, 1425, 864, 593, 365⟩,
    ⟨125, 1828, 628, 12, 15, 28, 16, 30, 40, 4, 1501, 910, 625, 385⟩,
    ⟨129, 1921, 661, 11, 15, 31, 16, 30, 42, 3, 1581, 958, 658, 405⟩,
    ⟨133, 2051, 701, 19, 15, 26, 16, 30, 45, 3, 1677, 1016, 698, 430⟩,
    ⟨137, 2185, 745, 23, 15, 25, 16, 30, 48, 3, 1782, 1080, 742, 457⟩ ]

/-- R212, level H, entries 31 to 40. -/
def capH4 : List CapEntry :=
  [ ⟨141, 2323, 793, 23, 15, 28, 16, 30, 51, 3, 1897, 1150, 790, 486⟩,
    ⟨145, 2465, 845, 19, 15, 35, 16, 30, 54, 3, 2022, 1226, 842, 518⟩,
    ⟨149, 2611, 901, 11, 15, 46, 16, 30, 57, 3, 2157, 1307, 898, 553⟩,
    ⟨153, 2761, 961, 59, 16, 1, 17, 30, 60, 3, 2301, 1394, 958, 590⟩,
    ⟨157, 2876, 986, 22, 15, 41, 16, 30, 63, 0, 2361, 1431, 983, 605⟩,
    ⟨161, 3034, 1054, 2, 15, 64, 16, 30, 66, 0, 2524, 1530, 1051, 647⟩,
    ⟨165, 3196, 1096, 24, 15, 46, 16, 30, 70, 0, 2625, 1591, 1093, 673⟩,
    ⟨169, 3362, 1142, 42, 15, 32, 16, 30, 74, 0, 2735, 1658, 1139, 701⟩,
    ⟨173, 3532, 1222, 10, 15, 67, 16, 30, 77, 0, 2927, 1774, 1219, 750⟩,
    ⟨177, 3706, 1276, 20, 15, 61, 16, 30, 81, 0, 3057, 1852, 1273, 784⟩ ]

/-- R212, level H, in groups of ten versions. -/
def capH : List (List CapEntry) := [capH1, capH2, capH3, capH4]

/-- The entry an index outside the table would give; no command reads it (R502; log entry 12). -/
def CapEntry.none : CapEntry := ⟨0, 0, 0, 0, 0, 0, 0, 0, 0, 0, 0, 0, 0, 0⟩

/-- R212's rows of a LEVEL code (spec/10_state.md R56). -/
def capLevel (lv : Nat) : List (List CapEntry) :=
  match lv with
  | 0 => capL
  | 1 => capM
  | 2 => capQ
  | _ => capH

/-- CAP[level][version] (R212), for 1 ≤ v ≤ 40. -/
def cap (lv v : Nat) : CapEntry := ((capLevel lv).getD ((v - 1) / 10) []).getD ((v - 1) % 10) CapEntry.none

/-- SIZE(v) = 4×(v−1)+21 (spec/00_scope.md R7, spec/90_conflicts.md C1). -/
def size (v : Nat) : Nat := 4 * (v - 1) + 21

/-- REMAINDER[v], R212's column rem: the same at every level (spec/10_state.md R76). -/
def remainderBits (v : Nat) : Nat := (cap 0 v).rem

/-- The maximum character count of a mode code (R201). -/
def CapEntry.chars (e : CapEntry) (mode : Nat) : Nat :=
  match mode with
  | 0 => e.numeric
  | 1 => e.alnum
  | 2 => e.byte
  | _ => e.kanji

/-- Version tier: 0 for v ≤ 9, 1 for v ≤ 26, else 2 (R204, R214). -/
def tier (v : Nat) : Nat := if v ≤ 9 then 0 else if v ≤ 26 then 1 else 2

/-- CCI widths per mode, tiers in order (R214). -/
def cciTable : List (List Nat) := [[10, 12, 14], [9, 11, 13], [8, 16, 16], [8, 10, 12]]

/-- CCI[mode][tier] (R214). -/
def cci (mode v : Nat) : Nat := (cciTable.getD mode []).getD (tier v) 0

/-- Mode indicators (R214). -/
def modeIndicator (mode : Nat) : Nat :=
  match mode with
  | 0 => 0b0001
  | 1 => 0b0010
  | 2 => 0b0100
  | _ => 0b1000

end Sys2Proof.Machine
end

