-- ==== Sys2Proof/Machine/Field.lean ====
section
/-! DEFINITION. GF(256) multiplication, the Reed-Solomon division, the block split and the interleaver
(spec/41_reed_solomon.md R250 to R258, R266, R267). -/

namespace Sys2Proof.Machine

/-- a ⊗ b, "multiplication via log addition mod 255" (R252). -/
def gfMul (a b : Byte) : Byte :=
  if a = 0#8 ∨ b = 0#8 then 0#8 else gfExp ((gfLog a + gfLog b) % 255)

/-- XOR the first list into the leading entries of the second. -/
def xorInto : List Byte → List Byte → List Byte
  | [], d => d
  | _, [] => []
  | g :: gs, x :: d => (x ^^^ g) :: xorInto gs d

/-- One dividend position of R256: a zero leading coefficient is skipped, else the generator, scaled by it, is XORed in
(its zero coefficients contribute zero); then the position is passed. -/
def divStep (gen : List Byte) (d : List Byte) : List Byte :=
  match d with
  | [] => []
  | x :: rest => (if x = 0#8 then x :: rest else xorInto (gen.map (gfMul x)) (x :: rest)).tail

/-- The division loop of R256 over the message positions still to do. -/
def divLoop (gen : List Byte) : Nat → List Byte → List Byte
  | 0, d => d
  | k + 1, d => divLoop gen k (divStep gen d)

/-- RSRem(m, n): the error-correction codewords of message `m` (R256). -/
def rsRem (m : List Byte) (n : Nat) : List Byte := divLoop (genPoly n) m.length (m ++ List.replicate n 0#8)

/-- The first `n` pieces of `w` elements of a list. -/
def chunk {α : Type} (w : Nat) : Nat → List α → List (List α)
  | 0, _ => []
  | n + 1, l => l.take w :: chunk w n (l.drop w)

/-- Blocks(v, lv): "group1 blocks first, then group2" (R258). -/
def splitBlocks (e : CapEntry) (msg : List Byte) : List (List Byte) :=
  chunk e.g1Data e.g1Blocks msg ++ chunk e.g2Data e.g2Blocks (msg.drop (e.g1Blocks * e.g1Data))

/-- The ECC bytes of every block, block-major (R265, spec/10_state.md R74). -/
def encodeBlocks (e : CapEntry) (msg : List Byte) : List Byte :=
  (splitBlocks e msg).flatMap fun b => rsRem b e.ec

/-- Data codewords round-robin across the blocks, exhausted blocks skipped (R266). -/
def interleaveData (e : CapEntry) (blocks : List (List Byte)) : List Byte :=
  (List.range (max e.g1Data e.g2Data)).flatMap fun i => blocks.filterMap fun b => b[i]?

/-- Error-correction codewords round-robin across the blocks, from the ECC bytes as stored (R266). -/
def interleaveEcc (e : CapEntry) (ecc : List Byte) : List Byte :=
  (List.range e.ec).flatMap fun i => (List.range e.blocks).map fun b => ecc.getD (b * e.ec + i) 0#8

/-- The bytes INTERLEAVE stores in CW: totalCW codewords, then the remainder byte where there are remainder bits (R266). -/
def composeStream (e : CapEntry) (msg ecc : List Byte) : List Byte :=
  (interleaveData e (splitBlocks e msg) ++ interleaveEcc e ecc).take e.totalCW
    ++ (if e.rem = 0 then [] else [0#8])

/-- The bits of a codeword, MSB first (spec/00_scope.md R10). -/
def bitsOfByte (b : Byte) : List Bool :=
  [b.getLsbD 7, b.getLsbD 6, b.getLsbD 5, b.getLsbD 4, b.getLsbD 3, b.getLsbD 2, b.getLsbD 1, b.getLsbD 0]

/-- The bit string of a byte list (R10, R267). -/
def bitsOfBytes (bs : List Byte) : List Bool := bs.flatMap bitsOfByte

end Sys2Proof.Machine
end

