-- ==== Sys2Proof/Machine/RomSymbol.lean ====
section
/-! DEFINITION. The symbol ROMs: alignment coordinates (spec/42_placement.md R325), version-information strings (R330) and
format-information strings (spec/43_mask.md R381, R384). -/

namespace Sys2Proof.Machine

/-- R325, versions 1 to 10. -/
def alignTable1 : List (List Nat) :=
  [ [],
    [6, 18],
    [6, 22],
    [6, 26],
    [6, 30],
    [6, 34],
    [6, 22, 38],
    [6, 24, 42],
    [6, 26, 46],
    [6, 28, 50] ]

/-- R325, versions 11 to 20. -/
def alignTable2 : List (List Nat) :=
  [ [6, 30, 54],
    [6, 32, 58],
    [6, 34, 62],
    [6, 26, 46, 66],
    [6, 26, 48, 70],
    [6, 26, 50, 74],
    [6, 30, 54, 78],
    [6, 30, 56, 82],
    [6, 30, 58, 86],
    [6, 34, 62, 90] ]

/-- R325, versions 21 to 30. -/
def alignTable3 : List (List Nat) :=
  [ [6, 28, 50, 72, 94],
    [6, 26, 50, 74, 98],
    [6, 30, 54, 78, 102],
    [6, 28, 54, 80, 106],
    [6, 32, 58, 84, 110],
    [6, 30, 58, 86, 114],
    [6, 34, 62, 90, 118],
    [6, 26, 50, 74, 98, 122],
    [6, 30, 54, 78, 102, 126],
    [6, 26, 52, 78, 104, 130] ]

/-- R325, versions 31 to 40. -/
def alignTable4 : List (List Nat) :=
  [ [6, 30, 56, 82, 108, 134],
    [6, 34, 60, 86, 112, 138],
    [6, 30, 58, 86, 114, 142],
    [6, 34, 62, 90, 118, 146],
    [6, 30, 54, 78, 102, 126, 150],
    [6, 24, 50, 76, 102, 128, 154],
    [6, 28, 54, 80, 106, 132, 158],
    [6, 32, 58, 84, 110, 136, 162],
    [6, 26, 54, 82, 110, 138, 166],
    [6, 30, 58, 86, 114, 142, 170] ]

/-- ALIGN in groups of ten versions. -/
def alignTable : List (List (List Nat)) := [alignTable1, alignTable2, alignTable3, alignTable4]

/-- ALIGN[v], in increasing order (R325). -/
def align (v : Nat) : List Nat := (alignTable.getD ((v - 1) / 10) []).getD ((v - 1) % 10) []

/-- R330, versions 7 to 23. -/
def versionInfoLo : List Nat :=
  [ 0x07C94, 0x085BC, 0x09A99, 0x0A4D3, 0x0BBF6, 0x0C762,
    0x0D847, 0x0E60D, 0x0F928, 0x10B78, 0x1145D, 0x12A17,
    0x13532, 0x149A6, 0x15683, 0x168C9, 0x177EC ]

/-- R330, versions 24 to 40. -/
def versionInfoHi : List Nat :=
  [ 0x18EC4, 0x191E1, 0x1AFAB, 0x1B08E, 0x1CC1A, 0x1D33F,
    0x1ED75, 0x1F250, 0x209D5, 0x216F0, 0x228BA, 0x2379F,
    0x24B0B, 0x2542E, 0x26A64, 0x27541, 0x28C69 ]

/-- VERSION_INFO[v], 18 bits, for v = 7..40 (R330). -/
def versionInfo (v : Nat) : Nat := (versionInfoLo ++ versionInfoHi).getD (v - 7) 0

/-- R384, one row per LEVEL code. -/
def formatTable : List (List Nat) :=
  [ [0x77C4, 0x72F3, 0x7DAA, 0x789D, 0x662F, 0x6318, 0x6C41, 0x6976],
    [0x5412, 0x5125, 0x5E7C, 0x5B4B, 0x45F9, 0x40CE, 0x4F97, 0x4AA0],
    [0x355F, 0x3068, 0x3F31, 0x3A06, 0x24B4, 0x2183, 0x2EDA, 0x2BED],
    [0x1689, 0x13BE, 0x1CE7, 0x19D0, 0x0762, 0x0255, 0x0D0C, 0x083B] ]

/-- FORMAT[lv][m], 15 bits (R384). -/
def formatInfo (lv m : Nat) : Nat := (formatTable.getD lv []).getD m 0

end Sys2Proof.Machine
end

