-- ==== Sys2Proof/Machine/Grid.lean ====
section
/-! DEFINITION. The module grid: cell codes (spec/10_state.md R71, R72), the function patterns (spec/42_placement.md R320
to R332), the zigzag scan (R340) and placement (R341). -/

namespace Sys2Proof.Machine

/-! ### Cells -/

/-- The variant a 3-bit cell code names (R71). -/
inductive Cell where
  /-- 0, free. -/
  | unfilled
  /-- 1, functional: format area not yet written. -/
  | reserved
  /-- 2 and 3, free: DATA_0, DATA_1. -/
  | data (b : Bool)
  /-- 4 and 5, functional: FUNC_0, FUNC_1. -/
  | func (b : Bool)
  /-- 6 and 7: no variant (spec/60_exceptions.md R505). -/
  | invalid (b : Bool)
  deriving DecidableEq, Repr

/-- The cell of a stored byte: bits 2:0 (R71). -/
def Cell.ofByte (x : Byte) : Cell :=
  match x.toNat % 8 with
  | 0 => .unfilled
  | 1 => .reserved
  | 2 => .data false
  | 3 => .data true
  | 4 => .func false
  | 5 => .func true
  | 6 => .invalid false
  | _ => .invalid true

/-- The code of a cell, as a stored byte (R71). -/
def Cell.toByte : Cell → Byte
  | .unfilled => 0#8
  | .reserved => 1#8
  | .data false => 2#8
  | .data true => 3#8
  | .func false => 4#8
  | .func true => 5#8
  | .invalid false => 6#8
  | .invalid true => 7#8

/-- Codes 0, 2 and 3 (R320). -/
def Cell.isFree : Cell → Bool
  | .unfilled | .data _ => true
  | .reserved | .func _ | .invalid _ => false

/-- Codes 6 and 7 (R505). -/
def Cell.isInvalid : Cell → Bool
  | .invalid _ => true
  | .unfilled | .reserved | .data _ | .func _ => false

/-- Codes 2 to 5: a cell with a module value (spec/43_mask.md R380, R400). -/
def Cell.isComplete : Cell → Bool
  | .data _ | .func _ => true
  | .unfilled | .reserved | .invalid _ => false

/-- The module value code[0] of codes 2 to 5 (R380). It is undefined for the others, and no rule reads it there (log entry 12). -/
def Cell.val : Cell → Bool
  | .data b | .func b => b
  | .unfilled | .reserved | .invalid _ => false

/-! ### Grids: rows from the top, cells of a row from the left (R320) -/

/-- The region of a symbol: SIZE rows of SIZE cells. -/
abbrev Grid := List (List Cell)

/-- Cell(G, r, c) (spec/00_scope.md R11). -/
def Grid.get (g : Grid) (r c : Nat) : Cell := (g.getD r []).getD c .unfilled

/-- Cell(G, r, c) <- x (R11). -/
def Grid.set (g : Grid) (r c : Nat) (x : Cell) : Grid := g.modify r fun row => row.set c x

/-- The n×n grid with the given cell at each coordinate. -/
def Grid.tabulate (n : Nat) (f : Nat → Nat → Cell) : Grid :=
  (List.range n).map fun r => (List.range n).map fun c => f r c

/-- The region of SIZE n in a run of stored cells: cell (r, c) is entry r×n + c (spec/10_state.md R72). -/
def Grid.ofBytes (n : Nat) (bs : List Byte) : Grid := chunk n n (bs.map Cell.ofByte)

/-- The stored cells of a region, row-major (R72). -/
def Grid.toBytes (g : Grid) : List Byte := g.flatMap fun row => row.map Cell.toByte

/-- Some cell of the region satisfies `p`. -/
def Grid.anyCell (g : Grid) (p : Cell → Bool) : Bool := g.any fun row => row.any p

/-- #{ region cells satisfying `p` }. -/
def Grid.count (g : Grid) (p : Cell → Bool) : Nat := (g.map fun row => row.countP p).sum

/-- The region of GRID or BEST for version `v` (R72). -/
def State.readGrid (s : State) (b : Buf) (v : Nat) : Grid :=
  Grid.ofBytes (size v) (s.readBuf b 0 (size v * size v))

/-- Write a region of GRID or BEST; cells past it keep their values (R72). -/
def State.writeGrid (s : State) (b : Buf) (g : Grid) : State := s.writeBuf b 0 g.toBytes

/-! ### Function patterns -/

/-- |a − b|. -/
def dist (a b : Nat) : Nat := (a - b) + (b - a)

/-- Bit `i` of a constant, bit 0 the least significant (spec/00_scope.md R9). -/
def natBit (x i : Nat) : Bool := x / 2 ^ i % 2 == 1

/-- Finder pattern cell at an offset from its corner (R321). -/
def finderCell (dr dc : Nat) : Cell := .func (max (dist dr 3) (dist dc 3) != 2)

/-- The finder pattern covering a cell, if any (R321). -/
def finderAt (n r c : Nat) : Option Cell :=
  if Nat.ble r 6 && Nat.ble c 6 then some (finderCell r c)
  else if Nat.ble r 6 && Nat.ble (n - 7) c then some (finderCell r (c - (n - 7)))
  else if Nat.ble (n - 7) r && Nat.ble c 6 then some (finderCell (r - (n - 7)) c)
  else none

/-- The separator cells of R322. -/
def isSeparator (n r c : Nat) : Bool :=
  (r == 7 && (Nat.ble c 7 || Nat.ble (n - 8) c)) || (c == 7 && (Nat.ble r 7 || Nat.ble (n - 8) r))
    || (Nat.ble r 7 && c == n - 8) || (r == n - 8 && Nat.ble c 7)

/-- The finder zones of R322 as half-open ranges of a 5-wide box: rows lo..lo+4 × columns lo'..lo'+4 meet a zone. -/
def boxMeetsFinderZone (n r c : Nat) : Bool :=
  (Nat.ble r 9 && Nat.ble c 9) || (Nat.ble r 9 && Nat.ble (n - 8) (c + 2)) || (Nat.ble (n - 8) (r + 2) && Nat.ble c 9)

/-- Alignment pattern cell at an offset from its centre (R324). -/
def alignCell (dr dc : Nat) : Cell := .func (max dr dc != 1)

/-- The alignment coordinate within two modules of `x`. At most one is: coordinates of a version lie at least 12 apart (R325). -/
def alignNear (v x : Nat) : Option Nat := (align v).find? fun a => Nat.ble (dist x a) 2

/-- The alignment pattern covering a cell, if any (R323, R324). -/
def alignAt (v r c : Nat) : Option Cell :=
  match alignNear v r with
  | none => none
  | some a =>
    match alignNear v c with
    | none => none
    | some b => if boxMeetsFinderZone (size v) a b then none else some (alignCell (dist r a) (dist c b))

/-- The timing pattern covering a cell, if any (R326). -/
def timingAt (n r c : Nat) : Option Cell :=
  if r == 6 && (Nat.ble 8 c && Nat.ble c (n - 9)) then some (.func (c % 2 == 0))
  else if c == 6 && (Nat.ble 8 r && Nat.ble r (n - 9)) then some (.func (r % 2 == 0))
  else none

/-- First-copy format cells, list index i carrying bit i (R328). -/
def formatFirst : List (Nat × Nat) :=
  [(0, 8), (1, 8), (2, 8), (3, 8), (4, 8), (5, 8), (7, 8), (8, 8), (8, 7), (8, 5), (8, 4), (8, 3), (8, 2), (8, 1), (8, 0)]

/-- Second-copy format cells, list index i carrying bit i (R328). -/
def formatSecond (n : Nat) : List (Nat × Nat) :=
  [ (8, n - 1), (8, n - 2), (8, n - 3), (8, n - 4), (8, n - 5), (8, n - 6), (8, n - 7), (8, n - 8),
    (n - 7, 8), (n - 6, 8), (n - 5, 8), (n - 4, 8), (n - 3, 8), (n - 2, 8), (n - 1, 8) ]

/-- The place of a coordinate pair in a list of coordinates, counted from `i`. -/
def coordIndex (r c : Nat) : Nat → List (Nat × Nat) → Option Nat
  | _, [] => none
  | i, (a, b) :: rest => if a == r && b == c then some i else coordIndex r c (i + 1) rest

/-- The format bit a cell carries, if it is one of the 30 format cells (R328); all of them lie on row 8 or column 8. -/
def formatBitAt (n r c : Nat) : Option Nat :=
  if r == 8 || c == 8 then
    match coordIndex r c 0 formatFirst with
    | some i => some i
    | none => coordIndex r c 0 (formatSecond n)
  else none

/-- The version-information bit a cell carries, if any: bit i at (i div 3, n−11 + i mod 3) and transposed (R329, R330). -/
def versionBitAt (v r c : Nat) : Option Nat :=
  if Nat.blt v 7 then none
  else if Nat.ble r 5 && (Nat.ble (size v - 11) c && Nat.ble c (size v - 9)) then some (3 * r + (c - (size v - 11)))
  else if Nat.ble c 5 && (Nat.ble (size v - 11) r && Nat.ble r (size v - 9)) then some (3 * c + (r - (size v - 11)))
  else none

/-- The cell BUILD_FUNC leaves at (r, c). A later write of R332 replaces an earlier one (R331), so the patterns are asked
last write first (log entry 11): version information, format cells, dark module, timing, alignment, separators, finders, the
fresh grid. -/
def funcCell (v r c : Nat) : Cell :=
  match versionBitAt v r c with
  | some i => .func (natBit (versionInfo v) i)
  | none =>
    if (formatBitAt (size v) r c).isSome then .reserved
    else if r == size v - 8 && c == 8 then .func true
    else
      match timingAt (size v) r c with
      | some x => x
      | none =>
        match alignAt v r c with
        | some x => x
        | none =>
          if isSeparator (size v) r c then .func false
          else (finderAt (size v) r c).getD .unfilled

/-- The region BUILD_FUNC leaves in GRID (R332). -/
def funcGrid (v : Nat) : Grid := Grid.tabulate (size v) (funcCell v)

/-! ### Placement -/

/-- The rows of a column pair in scan direction (R340). -/
def scanRows (n : Nat) (upward : Bool) : List Nat := if upward then (List.range n).reverse else List.range n

/-- Scan from a pair's right column on, with fuel (R340): the right column first, column 6 skipped, directions alternating. -/
def scanFrom (n : Nat) : Nat → Nat → Bool → List (Nat × Nat)
  | 0, _, _ => []
  | fuel + 1, right, upward =>
    if right = 0 then []
    else
      let right' := if right = 6 then 5 else right
      (scanRows n upward).flatMap (fun r => [(r, right'), (r, right' - 1)]) ++ scanFrom n fuel (right' - 2) (!upward)

/-- Scan(N) (R340). Every pair takes two columns, so N is fuel enough. -/
def scan (n : Nat) : List (Nat × Nat) := scanFrom n n (n - 1) true

/-- The placement loop of R341: one stream bit per free cell, in scan order. -/
def placeBits : List (Nat × Nat) → List Bool → Grid → Grid
  | [], _, g => g
  | (r, c) :: rest, bits, g =>
    if (g.get r c).isFree then
      match bits with
      | [] => g
      | b :: bs => placeBits rest bs (g.set r c (.data b))
    else placeBits rest bits g

end Sys2Proof.Machine
end

