-- ==== Sys2Proof/Machine/Penalty.lean ====
section
/-! DEFINITION. Format writing, masks, candidates, the four penalty rules and the choice of mask
(spec/43_mask.md R380 to R412). -/

namespace Sys2Proof.Machine

/-- M_m(i, j): mask m holds at row i, column j (R386). -/
def maskHolds (m i j : Nat) : Bool :=
  match m with
  | 0 => (i + j) % 2 == 0
  | 1 => i % 2 == 0
  | 2 => j % 3 == 0
  | 3 => (i + j) % 3 == 0
  | 4 => (i / 2 + j / 3) % 2 == 0
  | 5 => (i * j) % 2 + (i * j) % 3 == 0
  | 6 => ((i * j) % 2 + (i * j) % 3) % 2 == 0
  | _ => ((i + j) % 2 + (i * j) % 3) % 2 == 0

/-- Masking inverts exactly the DATA cells where the mask holds (R387). -/
def Cell.masked (x : Cell) (holds : Bool) : Cell :=
  match x with
  | .data b => .data (b ^^ holds)
  | .unfilled => .unfilled
  | .reserved => .reserved
  | .func b => .func b
  | .invalid b => .invalid b

/-- The cell of Candidate(G, lv, m) at (r, c): the format bit where one is written (R385), else G's cell, masked (R387). -/
def candidateCell (n lv m : Nat) (g : Grid) (r c : Nat) : Cell :=
  match formatBitAt n r c with
  | some i => .func (natBit (formatInfo lv m) i)
  | none => (g.get r c).masked (maskHolds m r c)

/-- Candidate(G, lv, m) (R400). -/
def candidate (n lv m : Nat) (g : Grid) : Grid := Grid.tabulate n (candidateCell n lv m g)

/-- Complete: every region cell holds code 2, 3, 4 or 5 (R400). Asked of a candidate, whose format cells have been written
whatever they held (R385): a format cell of GRID never makes it incomplete, where R401's words say otherwise (DESIGN CHOICE,
log entry 15). -/
def Grid.complete (g : Grid) : Bool := g.all fun row => row.all Cell.isComplete

/-- The grid of module values (R380). -/
def Grid.values (g : Grid) : List (List Bool) := g.map fun row => row.map Cell.val

/-! ### Penalty -/

/-- The columns of a grid of `n` columns, from the left. -/
def columns : Nat → List (List Bool) → List (List Bool)
  | 0, _ => []
  | n + 1, rows => (rows.map fun row => row.headD false) :: columns n (rows.map List.tail)

/-- The lines of an n×n grid: its rows, then its columns (section 4). -/
def lines (n : Nat) (x : List (List Bool)) : List (List Bool) := x ++ columns n x

/-- Points of a maximal run of `n` (R390). -/
def runPoints (n : Nat) : Nat := if 5 ≤ n then n - 2 else 0

/-- Points of a line whose current run is `n` cells of value `b` so far (R390). -/
def runsFrom (b : Bool) : Nat → List Bool → Nat
  | n, [] => runPoints n
  | n, x :: xs => if x == b then runsFrom b (n + 1) xs else runPoints n + runsFrom x 1 xs

/-- Points of the runs of a line (R390). -/
def lineRuns : List Bool → Nat
  | [] => 0
  | x :: xs => runsFrom x 1 xs

/-- N1 (R390). -/
def penaltyRuns (ls : List (List Bool)) : Nat := (ls.map lineRuns).sum

/-- 2×2 blocks of one value between two neighbouring rows. -/
def rowBlocks : List Bool → List Bool → Nat
  | a :: b :: r, c :: d :: t => (if a == b && (a == c && a == d) then 1 else 0) + rowBlocks (b :: r) (d :: t)
  | _, _ => 0

/-- 2×2 blocks of one value. -/
def gridBlocks : List (List Bool) → Nat
  | r :: t :: rest => rowBlocks r t + gridBlocks (t :: rest)
  | _ => 0

/-- N2 (R391). -/
def penaltyBlocks (x : List (List Bool)) : Nat := 3 * gridBlocks x

/-- P1 = 1,0,1,1,1,0,1,0,0,0,0 (R392). -/
def motif1 : List Bool := [true, false, true, true, true, false, true, false, false, false, false]

/-- P2 = 0,0,0,0,1,0,1,1,1,0,1 (R392). -/
def motif2 : List Bool := [false, false, false, false, true, false, true, true, true, false, true]

/-- The line starts with the motif. -/
def startsWith : List Bool → List Bool → Bool
  | [], _ => true
  | _ :: _, [] => false
  | p :: ps, x :: xs => p == x && startsWith ps xs

/-- Windows of a line that equal P1 or P2, wholly inside the line (R392). -/
def lineMotifs : List Bool → Nat
  | [] => 0
  | x :: xs => (if startsWith motif1 (x :: xs) || startsWith motif2 (x :: xs) then 1 else 0) + lineMotifs xs

/-- N3 (R392). -/
def penaltyMotifs (ls : List (List Bool)) : Nat := 40 * (ls.map lineMotifs).sum

/-- Dark modules (R393). -/
def darkCount (x : List (List Bool)) : Nat := (x.map fun row => row.countP id).sum

/-- N4 from the dark count and the total, in exact integers (R393). -/
def proportionPoints (dark total : Nat) : Nat :=
  let q := 20 * dark / total
  10 * min (dist q 10) (dist q 9)

/-- The four rule scores (R390 to R393). -/
structure Score where
  n1 : Nat
  n2 : Nat
  n3 : Nat
  n4 : Nat
  deriving DecidableEq, Repr

/-- Penalty(X) = N1 + N2 + N3 + N4 (R394). -/
def Score.total (p : Score) : Nat := p.n1 + p.n2 + p.n3 + p.n4

/-- The score of an n×n grid of module values. -/
def score (n : Nat) (x : List (List Bool)) : Score where
  n1 := penaltyRuns (lines n x)
  n2 := penaltyBlocks x
  n3 := penaltyMotifs (lines n x)
  n4 := proportionPoints (darkCount x) (n * n)

/-! ### Mask selection -/

/-- A mask number with its candidate's score. -/
structure Scored where
  mask : Nat
  score : Score
  deriving DecidableEq, Repr

/-- The score of the candidate of mask `m` (R410). -/
def scoredCandidate (n lv : Nat) (g : Grid) (m : Nat) : Scored := ⟨m, score n (candidate n lv m g).values⟩

/-- Replace the best so far only by a strictly smaller total (R410, R412). -/
def better (best x : Scored) : Scored := if x.score.total < best.score.total then x else best

/-- The first minimum of the scan m = 0..7 (R412). -/
def selectBest (first : Scored) (rest : List Scored) : Scored := rest.foldl better first

/-! ### Registers and buffers the family writes -/

/-- PEN_TOTAL and PEN_N1 to PEN_N4 take a score (R402, R403, R410; every value fits, R395). -/
def State.setPenalties (s : State) (p : Score) : State :=
  { s with
    pen :=
      { total := BitVec.ofNat 32 p.total, n1 := BitVec.ofNat 32 p.n1, n2 := BitVec.ofNat 32 p.n2,
        n3 := BitVec.ofNat 32 p.n3, n4 := BitVec.ofNat 32 p.n4 } }

/-- PEN_M0 to PEN_M7 take the candidates' totals (R410). -/
def State.setMaskTotals (s : State) (t : Nat → Nat) : State :=
  { s with
    penM :=
      { m0 := BitVec.ofNat 32 (t 0), m1 := BitVec.ofNat 32 (t 1), m2 := BitVec.ofNat 32 (t 2),
        m3 := BitVec.ofNat 32 (t 3), m4 := BitVec.ofNat 32 (t 4), m5 := BitVec.ofNat 32 (t 5),
        m6 := BitVec.ofNat 32 (t 6), m7 := BitVec.ofNat 32 (t 7) } }

/-- Commit a candidate: the region of BEST, BEST_MASK, the penalties, OUT_VALID (R402, R404, R410). -/
def State.commit (s : State) (h : Grid) (x : Scored) : State :=
  ({ (s.writeGrid .best h) with bestMask := BitVec.ofNat 3 x.mask }.setPenalties x.score).setOutValid true

/-- The checks of MASK_APPLY and MASK_SELECT after the version check (R402, R410, R530): BAD_CELL, then GRID_INCOMPLETE,
which is the same for every candidate (R401; format cells by R385, log entry 15). -/
def checkCandidate (g h : Grid) (s : State) (k : CmdResult) : CmdResult :=
  if g.anyCell Cell.isInvalid then .failed .badCell s
  else if h.complete then k else .failed .gridIncomplete s

end Sys2Proof.Machine
end

