-- ==== Sys2Proof/Machine/Capacity.lean ====
section
/-! DEFINITION. The capacity family: CAP_CHARS, CAP_GEOM, CAP_INFO, CAP_CCI, CAP_FMT, CAP_VER (spec/40_capacity_lut.md
R201 to R206). Each command's rule is `body…`; its meaning `exec…` completes the pending command by it. -/

namespace Sys2Proof.Machine

/-- CAP_CHARS (R201). -/
def bodyCapChars (p : Pend) (s : State) : CmdResult :=
  checkVersion p s (.done (s.setResults (BitVec.ofNat 32 ((cap p.lv p.v).chars p.mode)) 0#32 0#32 0#32))

/-- CAP_CHARS, completed. -/
def execCapChars (s : State) : Host.Outcome State Fault Refusal := s.runCommand bodyCapChars

/-- CAP_GEOM's results from a CapacityEntry (R202). -/
def geomResults (e : CapEntry) (s : State) : State :=
  s.setResults (pack16 e.ec e.dataCW) (pack8 e.g2Data e.g2Blocks e.g1Data e.g1Blocks) (pack16 e.blocks e.totalCW) 0#32

/-- CAP_GEOM (R202). -/
def bodyCapGeom (p : Pend) (s : State) : CmdResult := checkVersion p s (.done (geomResults (cap p.lv p.v) s))

/-- CAP_GEOM, completed. -/
def execCapGeom (s : State) : Host.Outcome State Fault Refusal := s.runCommand bodyCapGeom

/-- CAP_INFO's results from the alignment list `a`, with A[i] = 0 for i ≥ n (R203). -/
def infoResults (v : Nat) (a : List Nat) (s : State) : State :=
  s.setResults (pack8 0 a.length (remainderBits v) (size v))
    (pack8 (a.getD 3 0) (a.getD 2 0) (a.getD 1 0) (a.getD 0 0))
    (pack8 0 (a.getD 6 0) (a.getD 5 0) (a.getD 4 0)) 0#32

/-- CAP_INFO (R203). -/
def bodyCapInfo (p : Pend) (s : State) : CmdResult := checkVersion p s (.done (infoResults p.v (align p.v) s))

/-- CAP_INFO, completed. -/
def execCapInfo (s : State) : Host.Outcome State Fault Refusal := s.runCommand bodyCapInfo

/-- CAP_CCI (R204): [11:8] indicator, [7:0] width. -/
def bodyCapCci (p : Pend) (s : State) : CmdResult :=
  checkVersion p s (.done (s.setResults (pack8 0 0 (modeIndicator p.mode) (cci p.mode p.v)) 0#32 0#32 0#32))

/-- CAP_CCI, completed. -/
def execCapCci (s : State) : Host.Outcome State Fault Refusal := s.runCommand bodyCapCci

/-- CAP_FMT (R205): VERSION is not read. -/
def bodyCapFmt (p : Pend) (s : State) : CmdResult :=
  .done (s.setResults (BitVec.ofNat 32 (formatInfo p.lv p.mask)) 0#32 0#32 0#32)

/-- CAP_FMT, completed. -/
def execCapFmt (s : State) : Host.Outcome State Fault Refusal := s.runCommand bodyCapFmt

/-- CAP_VER (R206): BAD_VERSION first, then BAD_ARG below version 7 (R530). -/
def bodyCapVer (p : Pend) (s : State) : CmdResult :=
  checkVersion p s
    (if p.v < 7 then .failed .badArg s
     else .done (s.setResults (BitVec.ofNat 32 (versionInfo p.v)) 0#32 0#32 0#32))

/-- CAP_VER, completed. -/
def execCapVer (s : State) : Host.Outcome State Fault Refusal := s.runCommand bodyCapVer

end Sys2Proof.Machine
end

