-- ==== Sys2Proof/Machine/ReedSolomon.lean ====
section
/-! DEFINITION. The GF(256) and Reed-Solomon family: GF_MUL, GF_LOG, GF_EXP, GF_GEN, RS_BLOCK, RS_ENCODE, INTERLEAVE
(spec/41_reed_solomon.md R260 to R266). -/

namespace Sys2Proof.Machine

/-- GF_MUL (R260). -/
def bodyGfMul (p : Pend) (s : State) : CmdResult :=
  .done (s.setResults ((gfMul p.arg0Lo p.arg0Hi).setWidth 32) 0#32 0#32 0#32)

/-- GF_MUL, completed. -/
def execGfMul (s : State) : Host.Outcome State Fault Refusal := s.runCommand bodyGfMul

/-- GF_LOG (R261). -/
def bodyGfLog (p : Pend) (s : State) : CmdResult :=
  if p.arg0Lo = 0#8 then .failed .gfLogZero s
  else .done (s.setResults (BitVec.ofNat 32 (gfLog p.arg0Lo)) 0#32 0#32 0#32)

/-- GF_LOG, completed. -/
def execGfLog (s : State) : Host.Outcome State Fault Refusal := s.runCommand bodyGfLog

/-- GF_EXP (R262): the exponent is taken mod 255. -/
def bodyGfExp (p : Pend) (s : State) : CmdResult :=
  .done (s.setResults ((gfExp (p.arg0Lo.toNat % 255)).setWidth 32) 0#32 0#32 0#32)

/-- GF_EXP, completed. -/
def execGfExp (s : State) : Host.Outcome State Fault Refusal := s.runCommand bodyGfExp

/-- GF_GEN's result for a coefficient: [15:8] exponent, [7:0] value (R263). -/
def genResult (x : Byte) : Word := pack8 0 0 (gfLog x) x.toNat

/-- GF_GEN (R263). -/
def bodyGfGen (p : Pend) (s : State) : CmdResult :=
  if genArgsOk p.arg0Lo.toNat p.arg0Hi.toNat then
    .done (s.setResults (genResult ((genPoly p.arg0Lo.toNat).getD p.arg0Hi.toNat 0#8)) 0#32 0#32 0#32)
  else .failed .badArg s

/-- GF_GEN, completed. -/
def execGfGen (s : State) : Host.Outcome State Fault Refusal := s.runCommand bodyGfGen

/-- RS_BLOCK (R264). -/
def bodyRsBlock (p : Pend) (s : State) : CmdResult :=
  if blockArgsOk p.src p.len p.degree p.dst then
    .done (s.writeBuf .ecc p.dst (rsRem (s.readBuf .msg p.src p.len) p.degree))
  else .failed .badArg s

/-- RS_BLOCK, completed. -/
def execRsBlock (s : State) : Host.Outcome State Fault Refusal := s.runCommand bodyRsBlock

/-- The effect of RS_ENCODE for a CapacityEntry (R265). -/
def rsEncodeEffect (e : CapEntry) (s : State) : State :=
  s.writeBuf .ecc 0 (encodeBlocks e (s.readBuf .msg 0 e.dataCW))

/-- RS_ENCODE (R265). -/
def bodyRsEncode (p : Pend) (s : State) : CmdResult := checkVersion p s (.done (rsEncodeEffect (cap p.lv p.v) s))

/-- RS_ENCODE, completed. -/
def execRsEncode (s : State) : Host.Outcome State Fault Refusal := s.runCommand bodyRsEncode

/-- The effect of INTERLEAVE for a CapacityEntry (R266): CW and CW_BITS = 8×T + R. -/
def interleaveEffect (e : CapEntry) (s : State) : State :=
  (s.writeBuf .cw 0 (composeStream e (s.readBuf .msg 0 e.dataCW) (s.readBuf .ecc 0 (e.blocks * e.ec)))).setCwBits
    (8 * e.totalCW + e.rem)

/-- INTERLEAVE (R266). -/
def bodyInterleave (p : Pend) (s : State) : CmdResult := checkVersion p s (.done (interleaveEffect (cap p.lv p.v) s))

/-- INTERLEAVE, completed. -/
def execInterleave (s : State) : Host.Outcome State Fault Refusal := s.runCommand bodyInterleave

end Sys2Proof.Machine
end

