-- ==== Sys2Proof/Machine/Placement.lean ====
section
/-! DEFINITION. The placement family: BUILD_FUNC, PLACE_DATA, FREE_COUNT (spec/42_placement.md R332, R341, R342). -/

namespace Sys2Proof.Machine

/-- BUILD_FUNC (R332): the region is rewritten whole, OUT_VALID cleared. -/
def bodyBuildFunc (p : Pend) (s : State) : CmdResult :=
  checkVersion p s (.done ((s.writeGrid .grid (funcGrid p.v)).setOutValid false))

/-- BUILD_FUNC, completed. -/
def execBuildFunc (s : State) : Host.Outcome State Fault Refusal := s.runCommand bodyBuildFunc

/-- The stream bits S[0..L−1] of CW (R267). -/
def State.streamBits (s : State) (l : Nat) : List Bool := (bitsOfBytes (s.readBuf .cw 0 ((l + 7) / 8))).take l

/-- The effect of PLACE_DATA on a region that passed its checks (R341). -/
def placeEffect (v l : Nat) (g : Grid) (s : State) : State :=
  (s.writeGrid .grid (placeBits (scan (size v)) (s.streamBits l) g)).setOutValid false

/-- PLACE_DATA on a region (R335, R341, R530): BAD_CELL, then PLACE_MISMATCH. -/
def placeOn (v l : Nat) (g : Grid) (s : State) : CmdResult :=
  if g.anyCell Cell.isInvalid then .failed .badCell s
  else if g.count Cell.isFree = l then .done (placeEffect v l g s)
  else .failed .placeMismatch s

/-- PLACE_DATA (R341): VERSION and CW_BITS latched, LEVEL not read. -/
def bodyPlaceData (p : Pend) (s : State) : CmdResult :=
  checkVersion p s (placeOn p.v p.cwBits.toNat (s.readGrid .grid p.v) s)

/-- PLACE_DATA, completed. -/
def execPlaceData (s : State) : Host.Outcome State Fault Refusal := s.runCommand bodyPlaceData

/-- FREE_COUNT's results from a region (R342). -/
def countResults (g : Grid) (s : State) : State :=
  s.setResults (BitVec.ofNat 32 (g.count Cell.isFree)) (BitVec.ofNat 32 (g.count (· == .unfilled)))
    (BitVec.ofNat 32 (g.count (· == .reserved))) 0#32

/-- FREE_COUNT on a region (R335, R342). -/
def countOn (g : Grid) (s : State) : CmdResult :=
  if g.anyCell Cell.isInvalid then .failed .badCell s else .done (countResults g s)

/-- FREE_COUNT (R342). -/
def bodyFreeCount (p : Pend) (s : State) : CmdResult := checkVersion p s (countOn (s.readGrid .grid p.v) s)

/-- FREE_COUNT, completed. -/
def execFreeCount (s : State) : Host.Outcome State Fault Refusal := s.runCommand bodyFreeCount

end Sys2Proof.Machine
end

