-- ==== Sys2Proof/Machine/Mask.lean ====
section
/-! DEFINITION. The mask family: MASK_APPLY, MASK_SCORE, MASK_SELECT (spec/43_mask.md R402, R403, R410). -/

namespace Sys2Proof.Machine

/-- MASK_APPLY on the region of GRID (R402). -/
def applyOn (n lv m : Nat) (g : Grid) (s : State) : CmdResult :=
  checkCandidate g (candidate n lv m g) s (.done (s.commit (candidate n lv m g) (scoredCandidate n lv g m)))

/-- MASK_APPLY (R402): commits whatever mask it is given. -/
def bodyMaskApply (p : Pend) (s : State) : CmdResult :=
  checkVersion p s (applyOn (size p.v) p.lv p.mask (s.readGrid .grid p.v) s)

/-- MASK_APPLY, completed. -/
def execMaskApply (s : State) : Host.Outcome State Fault Refusal := s.runCommand bodyMaskApply

/-- MASK_SCORE on the region of BEST (R403): BAD_CELL, then GRID_INCOMPLETE. -/
def scoreOn (n : Nat) (g : Grid) (s : State) : CmdResult :=
  if g.anyCell Cell.isInvalid then .failed .badCell s
  else if g.complete then .done (s.setPenalties (score n g.values))
  else .failed .gridIncomplete s

/-- MASK_SCORE (R403): reads neither LEVEL nor GRID. -/
def bodyMaskScore (p : Pend) (s : State) : CmdResult := checkVersion p s (scoreOn (size p.v) (s.readGrid .best p.v) s)

/-- MASK_SCORE, completed. -/
def execMaskScore (s : State) : Host.Outcome State Fault Refusal := s.runCommand bodyMaskScore

/-- The mask MASK_SELECT commits, with its score (R410, R412). -/
def bestMaskOf (n lv : Nat) (g : Grid) : Scored :=
  selectBest (scoredCandidate n lv g 0) ([1, 2, 3, 4, 5, 6, 7].map (scoredCandidate n lv g))

/-- MASK_SELECT on the region of GRID (R410). -/
def selectOn (n lv : Nat) (g : Grid) (s : State) : CmdResult :=
  checkCandidate g (candidate n lv 0 g) s
    (.done ((s.commit (candidate n lv (bestMaskOf n lv g).mask g) (bestMaskOf n lv g)).setMaskTotals
      fun m => (scoredCandidate n lv g m).score.total))

/-- MASK_SELECT (R410). -/
def bodyMaskSelect (p : Pend) (s : State) : CmdResult :=
  checkVersion p s (selectOn (size p.v) p.lv (s.readGrid .grid p.v) s)

/-- MASK_SELECT, completed. -/
def execMaskSelect (s : State) : Host.Outcome State Fault Refusal := s.runCommand bodyMaskSelect

end Sys2Proof.Machine
end

