-- ==== Sys2Proof/Machine/Control.lean ====
section
/-! DEFINITION. The control commands: NOP and ENCODE (spec/44_control.md R440, R441). -/

namespace Sys2Proof.Machine

/-- NOP (R440): no effect. -/
def bodyNop (_ : Pend) (s : State) : CmdResult := .done s

/-- NOP, completed. -/
def execNop (s : State) : Host.Outcome State Fault Refusal := s.runCommand bodyNop

/-- ENCODE's stages in order, on the latched operands; PLACE_DATA takes the CW_BITS INTERLEAVE has just written (R441). -/
def encodeStages (p : Pend) (s : State) : CmdResult :=
  ((((bodyRsEncode p s).andThen (bodyInterleave p)).andThen (bodyBuildFunc p)).andThen fun t =>
    bodyPlaceData { p with cwBits := t.cwBits } t).andThen (bodyMaskSelect p)

/-- ENCODE (R441). -/
def bodyEncode (p : Pend) (s : State) : CmdResult := checkVersion p s (encodeStages p s)

/-- ENCODE, completed. -/
def execEncode (s : State) : Host.Outcome State Fault Refusal := s.runCommand bodyEncode

end Sys2Proof.Machine
end

