-- ==== Sys2Proof/Machine/Dispatch.lean ====
section
/-! DEFINITION. The dispatch of the 21 commands to their meanings, one arm per constructor. -/

namespace Sys2Proof.Machine

def exec (i : Instr) (s : State) : Host.Outcome State Fault Refusal :=
  match i with
  | .nop => Sys2Proof.Machine.execNop s
  | .capChars => Sys2Proof.Machine.execCapChars s
  | .capGeom => Sys2Proof.Machine.execCapGeom s
  | .capInfo => Sys2Proof.Machine.execCapInfo s
  | .capCci => Sys2Proof.Machine.execCapCci s
  | .capFmt => Sys2Proof.Machine.execCapFmt s
  | .capVer => Sys2Proof.Machine.execCapVer s
  | .gfMul => Sys2Proof.Machine.execGfMul s
  | .gfLog => Sys2Proof.Machine.execGfLog s
  | .gfExp => Sys2Proof.Machine.execGfExp s
  | .gfGen => Sys2Proof.Machine.execGfGen s
  | .rsBlock => Sys2Proof.Machine.execRsBlock s
  | .rsEncode => Sys2Proof.Machine.execRsEncode s
  | .interleave => Sys2Proof.Machine.execInterleave s
  | .buildFunc => Sys2Proof.Machine.execBuildFunc s
  | .placeData => Sys2Proof.Machine.execPlaceData s
  | .freeCount => Sys2Proof.Machine.execFreeCount s
  | .maskApply => Sys2Proof.Machine.execMaskApply s
  | .maskScore => Sys2Proof.Machine.execMaskScore s
  | .maskSelect => Sys2Proof.Machine.execMaskSelect s
  | .encode => Sys2Proof.Machine.execEncode s

end Sys2Proof.Machine
end

