-- ==== Sys2Proof/Machine/Bus.lean ====
section
/-! DEFINITION. The host bus: the address map and every host transaction (spec/20_memory.md R100 to R110,
spec/70_reset_and_hazards.md R571 to R574). -/

namespace Sys2Proof.Machine

/-- The registers of the map, in address order (R101). -/
inductive Reg where
  | id
  | ctrl
  | status
  | cmd
  | version
  | level
  | arg0
  | arg1
  | arg2
  | cwBits
  | res0
  | res1
  | res2
  | res3
  | bestMask
  | penTotal
  | penN1
  | penN2
  | penN3
  | penN4
  | penM0
  | penM1
  | penM2
  | penM3
  | penM4
  | penM5
  | penM6
  | penM7
  deriving DecidableEq, Repr

/-- The registers at 0x00000, 0x00004, … (R101). -/
def regMap : List Reg :=
  [ .id, .ctrl, .status, .cmd, .version, .level, .arg0, .arg1, .arg2, .cwBits, .res0, .res1, .res2, .res3, .bestMask,
    .penTotal, .penN1, .penN2, .penN3, .penN4,
    .penM0, .penM1, .penM2, .penM3, .penM4, .penM5, .penM6, .penM7 ]

/-- The word address of a transaction: bits 1:0 of the byte address are ignored (R103). -/
def wordAddr (a : Addr) : Nat := a.toNat / 4 * 4

/-- What stands at a word address (R101, R108). -/
inductive Place where
  | reg (r : Reg)
  | window (b : Buf)
  | reserved
  deriving DecidableEq, Repr

/-- The address map (R101). -/
def placeOf (a : Nat) : Place :=
  match bufAt a with
  | some b => .window b
  | none =>
    match regMap[a / 4]? with
    | some r => .reg r
    | none => .reserved

/-- The value a register reads as (spec/10_state.md R50 to R62); register reads have no side effect (R105). -/
def State.readReg (s : State) : Reg → Word
  | .id => Config.idWord
  | .ctrl => s.ctrl.toWord
  | .status => s.status.toWord s.busy
  | .cmd => s.lastCmd
  | .version => s.version.setWidth 32
  | .level => s.level.setWidth 32
  | .arg0 => s.arg0
  | .arg1 => s.arg1
  | .arg2 => s.arg2
  | .cwBits => s.cwBits.setWidth 32
  | .res0 => s.res.r0
  | .res1 => s.res.r1
  | .res2 => s.res.r2
  | .res3 => s.res.r3
  | .bestMask => s.bestMask.setWidth 32
  | .penTotal => s.pen.total
  | .penN1 => s.pen.n1
  | .penN2 => s.pen.n2
  | .penN3 => s.pen.n3
  | .penN4 => s.pen.n4
  | .penM0 => s.penM.m0
  | .penM1 => s.penM.m1
  | .penM2 => s.penM.m2
  | .penM3 => s.penM.m3
  | .penM4 => s.penM.m4
  | .penM5 => s.penM.m5
  | .penM6 => s.penM.m6
  | .penM7 => s.penM.m7

/-- A CTRL write: the soft reset where bit 31 is 1, else the enables (R52, spec/70_reset_and_hazards.md R553). -/
def State.writeCtrl (s : State) (d : Word) : State :=
  if d.getLsbD 31 then s.softReset else { s with ctrl := ⟨d.getLsbD 0, d.getLsbD 1⟩ }

/-- A CMD write: the launch, or while busy a dropped word that sets OVERRUN (R54, R571). -/
def State.writeCmd (s : State) (d : Word) : State :=
  if s.busy then { s with status := { s.status with overrun := true } } else s.launch d

/-- A register write (R105), accepted whether BUSY is 0 or 1 (R572); read-only registers ignore it. -/
def State.writeReg (s : State) (d : Word) : Reg → State
  | .ctrl => s.writeCtrl d
  | .status => { s with status := s.status.clearedBy d }
  | .cmd => s.writeCmd d
  | .version => { s with version := d.setWidth 6 }
  | .level => { s with level := d.setWidth 2 }
  | .arg0 => { s with arg0 := d }
  | .arg1 => { s with arg1 := d }
  | .arg2 => { s with arg2 := d }
  | .cwBits => { s with cwBits := d.setWidth 16 }
  | .id | .res0 | .res1 | .res2 | .res3 | .bestMask => s
  | .penTotal | .penN1 | .penN2 | .penN3 | .penN4 => s
  | .penM0 | .penM1 | .penM2 | .penM3 | .penM4 | .penM5 | .penM6 | .penM7 => s

/-- The lock: a window access while busy sets LOCKED (R110). -/
def State.lock (s : State) : State := { s with status := { s.status with locked := true } }

/-- The word at a window's word address, lowest address in bits 7:0 (R102, R106, R107). -/
def State.windowWord (s : State) (a : Nat) : Word :=
  wordOfBytes (s.mem.read a) (s.mem.read (a + 1)) (s.mem.read (a + 2)) (s.mem.read (a + 3))

/-- A window write while not busy: four entries, as wide as the buffer's; GRID and BEST clear OUT_VALID (R106, R107). -/
def State.windowStore (s : State) (b : Buf) (a : Nat) (d : Word) : State :=
  if b.isCells then
    { s with mem := s.mem.writeRange a ((bytesOfWord d).map b.lane) }.setOutValid false
  else { s with mem := s.mem.writeRange a ((bytesOfWord d).map b.lane) }

/-- The data a host read of a byte address returns (R103 to R110). -/
def State.busData (s : State) (a : Addr) : Word :=
  match placeOf (wordAddr a) with
  | .reg r => s.readReg r
  | .window _ => if s.busy then 0#32 else s.windowWord (wordAddr a)
  | .reserved => 0#32

/-- What a host read changes in the block: LOCKED, where it meets the lock (R109, R110). -/
def State.afterRead (s : State) (a : Addr) : State :=
  match placeOf (wordAddr a) with
  | .window _ => if s.busy then s.lock else s
  | .reg _ | .reserved => s

/-- A host read transaction: its data goes to the host's log (log entry 3). -/
def State.hostRead (s : State) (a : Addr) : State := { (s.afterRead a) with hostLog := s.busData a :: s.hostLog }

/-- A host write transaction (R103 to R110); it never fails (spec/60_exceptions.md R521). -/
def State.hostWrite (s : State) (a : Addr) (d : Word) : State :=
  match placeOf (wordAddr a) with
  | .reg r => s.writeReg d r
  | .window b => if s.busy then s.lock else s.windowStore b (wordAddr a) d
  | .reserved => s

end Sys2Proof.Machine
end

