-- ==== Sys2Proof/Machine/Schedule.lean ====
section
/-! DEFINITION. Which agent moves next, and the engine's fetch of its pending command (spec/00_scope.md R14,
spec/10_state.md R78, R80, spec/70_reset_and_hazards.md R580, R582). The order of moves is data in the state (log entry 2). -/

namespace Sys2Proof.Machine

/-- What the next move comes to: a command to complete on a state, or a state reached without one. -/
inductive Move where
  | run (i : Instr) (s : State)
  | moved (s : State)
  deriving DecidableEq, Repr

/-- The engine's turn: decode PEND's word; an illegal word completes with ILLEGAL_CMD (R153, R508); with nothing pending
no step is enabled (R78). -/
def State.engineMove (s : State) : Move :=
  match s.pend with
  | none => .moved s
  | some p =>
    match decode p.word with
    | .ok i => .run i s
    | .error _ => .moved (s.completeErr .illegalCmd)

/-- One event of the script, already taken off it. -/
def State.eventMove (s : State) : Event → Move
  | .read a => .moved (s.hostRead a)
  | .write a d => .moved (s.hostWrite a d)
  | .engine => s.engineMove
  | .hardReset draw => .moved (s.hardReset draw)

/-- The next move: the script's first event, or, with none left, a pending command's completion (R582). -/
def State.nextMove (s : State) : Move :=
  match s.script with
  | [] => s.engineMove
  | e :: rest => { s with script := rest }.eventMove e

/-- The state whose very next move completes the command word `w`, as its launch leaves PEND (R152), the engine's turn
next. -/
def State.withCommand (s : State) (w : Word) : State := { (s.launch w) with script := .engine :: s.script }

end Sys2Proof.Machine
end

