-- ==== Sys2Proof/Machine/Step.lean ====
section
/-! DEFINITION. One step of the machine: the next move of Machine/Schedule.lean, a command completed by `exec`. -/

namespace Sys2Proof.Machine

/-- One step (spec/00_scope.md R14). -/
def step (s : State) : Host.Outcome State Fault Refusal :=
  match s.nextMove with
  | .run i t => exec i t
  | .moved t => .next t

/-- `s` with the command word of `nbits` bits `w` launched and the engine's turn next (log entry 4). -/
def State.withFetchWord (s : State) (nbits w : Nat) : State := s.withCommand (BitVec.ofNat 32 (w % 2 ^ nbits))

end Sys2Proof.Machine
end

