-- ==== Sys2Proof/Machine/HostProgram.lean ====
section
/-! DEFINITION. Host programs: the assembly syntax of spec/30_encoding.md R170 and its pseudo-instructions R171, as moves of
the script. Host software, not hardware: nothing of the block's step reads this file. -/

namespace Sys2Proof.Machine

/-- One line of a host program (R170). -/
inductive HostLine where
  /-- `wr <addr>, <value>`. -/
  | wr (a : Addr) (d : Word)
  /-- `rd <addr>`. -/
  | rd (a : Addr)
  /-- `rd <addr> == <value>`. -/
  | expect (a : Addr) (d : Word)
  deriving DecidableEq, Repr

/-- The transaction of a line (R170). -/
def HostLine.event : HostLine → Event
  | .wr a d => .write a d
  | .rd a => .read a
  | .expect a _ => .read a

/-- What the program expects of each of its reads, in order (R170). -/
def expectations : List HostLine → List (Option Word)
  | [] => []
  | .wr _ _ :: rest => expectations rest
  | .rd _ :: rest => none :: expectations rest
  | .expect _ d :: rest => some d :: expectations rest

/-- The data returned, oldest first, is what the program expects (R170). -/
def expectationsMet : List (Option Word) → List Word → Bool
  | [], _ => true
  | _ :: _, [] => false
  | none :: es, _ :: ds => expectationsMet es ds
  | some e :: es, d :: ds => e == d && expectationsMet es ds

/-- The address of a register (spec/20_memory.md R101). -/
def Reg.addr (r : Reg) : Addr := BitVec.ofNat 17 (4 * (regMap.findIdx (· == r)))

/-- The address of entry k of a buffer's window (R101, R170). -/
def Buf.addr (b : Buf) (k : Nat) : Addr := BitVec.ofNat 17 (b.base + k)

/-- `cmd X`: wr CMD, OPC(X) (R171). -/
def cmdEvents (i : Instr) : List Event := [Event.write Reg.cmd.addr (encode i)]

/-- `wait`: rd STATUS until BUSY reads 0. The number of reads that still see BUSY = 1 is open (R580), so it is given (log
entry 14). -/
def waitEvents (polls : Nat) : List Event :=
  List.replicate polls (Event.read Reg.status.addr) ++ [Event.engine, Event.read Reg.status.addr]

/-- `run X`: `cmd X` then `wait` (R171). -/
def runEvents (i : Instr) (polls : Nat) : List Event := cmdEvents i ++ waitEvents polls

/-- `setvl v, lv` (R171). -/
def setvlEvents (v lv : Nat) : List Event :=
  [Event.write Reg.version.addr (BitVec.ofNat 32 v), Event.write Reg.level.addr (BitVec.ofNat 32 lv)]

/-- `ldbytes BUF+k, b0, b1, …`: one write per four bytes, missing bytes of the last word 0 (R171). -/
def ldbytesEvents (b : Buf) : Nat → List Byte → List Event
  | _, [] => []
  | k, [b0] => [Event.write (b.addr k) (wordOfBytes b0 0#8 0#8 0#8)]
  | k, [b0, b1] => [Event.write (b.addr k) (wordOfBytes b0 b1 0#8 0#8)]
  | k, [b0, b1, b2] => [Event.write (b.addr k) (wordOfBytes b0 b1 b2 0#8)]
  | k, b0 :: b1 :: b2 :: b3 :: rest => Event.write (b.addr k) (wordOfBytes b0 b1 b2 b3) :: ldbytesEvents b (k + 4) rest

/-- `gf.mul a, b` (R171). -/
def gfMulEvents (a b : Byte) (polls : Nat) : List Event :=
  Event.write Reg.arg0.addr (wordOfBytes a b 0#8 0#8) :: runEvents .gfMul polls ++ [Event.read Reg.res0.addr]

/-- `gf.log a` (R171). -/
def gfLogEvents (a : Byte) (polls : Nat) : List Event :=
  Event.write Reg.arg0.addr (a.setWidth 32) :: runEvents .gfLog polls ++ [Event.read Reg.res0.addr]

/-- `gf.exp e` (R171). -/
def gfExpEvents (e : Byte) (polls : Nat) : List Event :=
  Event.write Reg.arg0.addr (e.setWidth 32) :: runEvents .gfExp polls ++ [Event.read Reg.res0.addr]

/-- `rs.block src, len, n, dst` (R171). -/
def rsBlockEvents (src : Nat) (len n : Byte) (dst polls : Nat) : List Event :=
  [Event.write Reg.arg0.addr (BitVec.ofNat 32 src), Event.write Reg.arg1.addr (wordOfBytes len n 0#8 0#8),
    Event.write Reg.arg2.addr (BitVec.ofNat 32 dst)] ++ runEvents .rsBlock polls

/-- `check`: the STATUS word read expects DONE = 1 and ERR = 0 (R171). -/
def checkMet (status : Word) : Bool := status.getLsbD 1 && !status.getLsbD 2

end Sys2Proof.Machine
end

