-- ==== Sys2Proof/Machine/HostPipeline.lean ====
section
/-! DEFINITION. The host software pipeline of spec/48_host_pipeline.md R460 to R477, as reference functions: it is no
hardware (spec/00_scope.md R5), and nothing of the block's step reads this file. A string is a list of code points; the
open parameter KANJI_TABLE (spec/92_eei_decisions.md D39) is an argument (log entry 13). -/

namespace Sys2Proof.Machine

/-- KANJI_TABLE: a character's double-byte value, if it has one (R461). -/
abbrev KanjiTable := Nat → Option (BitVec 16)

/-- The host error kinds (R465). -/
inductive HostError where
  | emptyInput
  /-- The offending character; `none` where R461's search finds none (a string that mixes kanji with other Latin-1
  characters): the spec names no character there (log entry 13). -/
  | invalidCharacter (c : Option Nat)
  | tooLong
  | kanjiRangeFailure
  deriving DecidableEq, Repr

/-- ALNUM: the 45 symbols in index order, as code points: 0-9, A-Z, space, $, %, *, +, -, ., /, : (R460). -/
def alnumSymbols : List Nat :=
  (List.range 10).map (48 + ·) ++ (List.range 26).map (65 + ·) ++ [32, 36, 37, 42, 43, 45, 46, 47, 58]

/-- A decimal digit. -/
def isDigit (c : Nat) : Bool := Nat.ble 48 c && Nat.ble c 57

/-- The index of an alphanumeric symbol (R460). -/
def alnumIndex (c : Nat) : Nat := alnumSymbols.findIdx (· == c)

/-- The ASCII space becomes the ideographic space before the kanji test (R461). -/
def normalizeChar (c : Nat) : Nat := if c == 0x20 then 0x3000 else c

/-- classify: numeric 0, alphanumeric 1, kanji 3, byte 2, in strict priority order (R461). -/
def classify (kt : KanjiTable) (s : List Nat) : Except HostError Nat :=
  if s.all isDigit then .ok 0
  else if s.all alnumSymbols.contains then .ok 1
  else if s.all fun c => (kt (normalizeChar c)).isSome then .ok 3
  else if s.all fun c => Nat.ble c 255 then .ok 2
  else .error (.invalidCharacter (s.find? fun c => Nat.blt 255 c && (kt c).isNone))

/-- selectLevel: the strictest level whose version-40 capacity suffices, else L (R462). -/
def selectLevel (len mode : Nat) : Nat := ([3, 2, 1, 0].find? fun lv => Nat.ble len ((cap lv 40).chars mode)).getD 0

/-- cap(v) of R463, with cap(0) = 0. -/
def charsAt (mode lv v : Nat) : Nat := if v = 0 then 0 else (cap lv v).chars mode

/-- selectVersion: the v in 1..40 with cap(v) ≥ len > cap(v−1) (R463). -/
def selectVersion (mode lv len : Nat) : Option Nat :=
  (List.range' 1 40).find? fun v => Nat.ble len (charsAt mode lv v) && Nat.blt (charsAt mode lv (v - 1)) len

/-- A number as `w` bits, MSB first (R470). -/
def bitsOfNat : Nat → Nat → List Bool
  | 0, _ => []
  | w + 1, x => natBit x w :: bitsOfNat w x

/-- Header: the mode indicator, then the character count (R470). -/
def headerBits (mode v len : Nat) : List Bool := bitsOfNat 4 (modeIndicator mode) ++ bitsOfNat (cci mode v) len

/-- Numeric segment: groups of three digits from the left, 10, 7 or 4 bits (R471). -/
def numericBits : List Nat → List Bool
  | a :: b :: c :: rest => bitsOfNat 10 ((a - 48) * 100 + (b - 48) * 10 + (c - 48)) ++ numericBits rest
  | [a, b] => bitsOfNat 7 ((a - 48) * 10 + (b - 48))
  | [a] => bitsOfNat 4 (a - 48)
  | [] => []

/-- Alphanumeric segment: pairs in 11 bits, a trailing single in 6 (R472). -/
def alnumBits : List Nat → List Bool
  | a :: b :: rest => bitsOfNat 11 (alnumIndex a * 45 + alnumIndex b) ++ alnumBits rest
  | [a] => bitsOfNat 6 (alnumIndex a)
  | [] => []

/-- Byte segment: the Latin-1 code point in 8 bits (R473). -/
def byteBits (s : List Nat) : List Bool := s.flatMap (bitsOfNat 8)

/-- The 13-bit value of a double-byte code, by its band (R474). -/
def kanjiValue (x : Nat) : Option Nat :=
  let combine := fun y => y / 256 * 0xC0 + y % 256
  if Nat.ble 0x8140 x && Nat.ble x 0x9FFC then some (combine (x - 0x8140))
  else if Nat.ble 0xE040 x && Nat.ble x 0xEBBF then some (combine (x - 0xC140))
  else none

/-- Kanji segment: 13 bits a character, else KanjiRangeFailure (R474). -/
def kanjiBits (kt : KanjiTable) : List Nat → Except HostError (List Bool)
  | [] => .ok []
  | c :: rest =>
    match (kt (normalizeChar c)).bind fun x => kanjiValue x.toNat with
    | none => .error .kanjiRangeFailure
    | some y =>
      match kanjiBits kt rest with
      | .ok bits => .ok (bitsOfNat 13 y ++ bits)
      | .error e => .error e

/-- The segment of a mode (R471 to R474). -/
def segmentBits (kt : KanjiTable) (mode : Nat) (s : List Nat) : Except HostError (List Bool) :=
  match mode with
  | 0 => .ok (numericBits s)
  | 1 => .ok (alnumBits s)
  | 2 => .ok (byteBits s)
  | _ => kanjiBits kt s

/-- The pad bytes 0xEC and 0x11, alternating from 0xEC (R475). -/
def padBytes (n : Nat) : List Byte := (List.range n).map fun k => if k % 2 == 0 then 0xEC#8 else 0x11#8

/-- Terminator and byte alignment (R475). -/
def alignBits (bits : List Bool) (d : Nat) : List Bool :=
  let t := bits ++ List.replicate (min 4 (8 * d - bits.length)) false
  t ++ List.replicate ((8 - t.length % 8) % 8) false

/-- The finalizer (R475). -/
def finalizeBits (bits : List Bool) (d : Nat) : List Bool :=
  alignBits bits d ++ bitsOfBytes (padBytes ((8 * d - (alignBits bits d).length) / 8))

/-- The value of a bit string, MSB first. -/
def natOfBits (bits : List Bool) : Nat := bits.foldl (fun x b => 2 * x + b.toNat) 0

/-- Split a bit string into `n` codewords (R476). -/
def codewordsOf (n : Nat) (bits : List Bool) : List Byte := (chunk 8 n bits).map fun w => BitVec.ofNat 8 (natOfBits w)

/-- What the host writes before it launches ENCODE: version, level code and the finalized data codewords (R476, R477). -/
structure HostJob where
  version : Nat
  level : Nat
  msg : List Byte
  deriving DecidableEq, Repr

/-- The host half of encode(s), with the checks of R465 in order (R477). The `none` of selectVersion is "a fatal
programming-invariant violation" that the length check rules out (R463); it is reported as TooLong here. -/
def hostEncode (kt : KanjiTable) (s : List Nat) : Except HostError HostJob :=
  if s.isEmpty then .error .emptyInput
  else
    match classify kt s with
    | .error e => .error e
    | .ok mode =>
      if Nat.blt ((cap 0 40).chars mode) s.length then .error .tooLong
      else
        let lv := selectLevel s.length mode
        match selectVersion mode lv s.length with
        | none => .error .tooLong
        | some v =>
          match segmentBits kt mode s with
          | .error e => .error e
          | .ok bits =>
            let d := (cap lv v).dataCW
            .ok ⟨v, lv, codewordsOf d (finalizeBits (headerBits mode v s.length ++ bits) d)⟩

/-- The host program of R477 for a job. -/
def HostJob.events (j : HostJob) (polls : Nat) : List Event :=
  ldbytesEvents .msg 0 j.msg ++ setvlEvents j.version j.level ++ runEvents .encode polls

/-- The output matrix: module (r, c) is bit 0 of the BEST cell code (R477, spec/00_scope.md R6). This is what BEST holds; the
reading by host transactions, which first requires DONE = 1 and OUT_VALID = 1, is `State.readOutput`. -/
def State.matrix (s : State) (v : Nat) : List (List Bool) :=
  (chunk (size v) (size v) (s.readBuf .best 0 (size v * size v))).map fun row => row.map fun x => x.getLsbD 0

end Sys2Proof.Machine
end

