-- ==== Sys2Proof/Safety.lean ====
section
/-! DEFINITION. What statements say of runs: the invariants of the block, the buffer footprint of each command
(spec/20_memory.md R111), which registers a command may write, and the spec's own terms for results, blocks, cells,
polynomials and penalties, written apart from the meanings. -/

namespace Sys2Proof.Machine

/-- A stored entry stands in a buffer's window and is as wide as that buffer's entries (spec/10_state.md R70 to R75). -/
def entryOk (c : Host.Cell) : Bool :=
  match bufAt c.1 with
  | some b => b.lane c.2 == c.2
  | none => false

/-- The buffers are in canonical form, inside their windows, cells three bits wide. -/
abbrev State.MemInv (s : State) : Prop := s.mem.wf ∧ ∀ c ∈ s.mem, entryOk c = true

/-- STATUS is consistent: DONE and ERR never both; ERR_CODE is 0 while ERR = 0 and one of R501's codes while ERR = 1;
while a command is pending neither is set (spec/30_encoding.md R152, spec/60_exceptions.md R501, R510, R531). -/
abbrev State.StatusInv (s : State) : Prop :=
  (s.status.done && s.status.err) = false ∧ (s.status.err = false → s.status.errCode = 0#8) ∧
    (s.status.err = true → 1 ≤ s.status.errCode.toNat ∧ s.status.errCode.toNat ≤ 7) ∧
    (s.busy = true → s.status.done = false ∧ s.status.err = false)

/-- A pending command is the last word a launch accepted (spec/10_state.md R54, R78). -/
abbrev State.PendInv (s : State) : Prop := ∀ p ∈ s.pend, p.word = s.lastCmd

/-- A grid of n rows of n cells. -/
abbrev Grid.Square (g : Grid) (n : Nat) : Prop := g.length = n ∧ ∀ row ∈ g, row.length = n

/-- The 30 format cells of a region hold FORMAT[lv][m] (spec/43_mask.md R385, R404). -/
def formatWritten (n lv m : Nat) (g : Grid) : Prop :=
  ∀ r c i, r < n → c < n → formatBitAt n r c = some i → g.get r c = .func (natBit (formatInfo lv m) i)

/-- While OUT_VALID = 1, BEST holds a committed matrix: for some version its region is complete, and its format cells hold
FORMAT[lv][BEST_MASK] for some level (spec/43_mask.md R404, spec/10_state.md R79). -/
def State.OutputInv (s : State) : Prop :=
  s.status.outValid = true → ∃ v lv, versionOk v = true ∧ lv < 4 ∧ (s.readGrid .best v).complete = true ∧
    formatWritten (size v) lv s.bestMask.toNat (s.readGrid .best v)

/-- The addresses command `i` may write for latched operands `p` (R111). -/
def footprint (i : Instr) (p : Pend) (a : Nat) : Bool :=
  let within := fun (b : Buf) (off n : Nat) => Nat.ble (b.base + off) a && Nat.blt a (b.base + off + n)
  let e := cap p.lv p.v
  let stream := (8 * e.totalCW + e.rem + 7) / 8
  let region := size p.v * size p.v
  match i with
  | .nop | .capChars | .capGeom | .capInfo | .capCci | .capFmt | .capVer => false
  | .gfMul | .gfLog | .gfExp | .gfGen | .freeCount | .maskScore => false
  | .rsBlock => within .ecc p.dst p.degree
  | .rsEncode => within .ecc 0 (e.blocks * e.ec)
  | .interleave => within .cw 0 stream
  | .buildFunc | .placeData => within .grid 0 region
  | .maskApply | .maskSelect => within .best 0 region
  | .encode =>
    within .ecc 0 (e.blocks * e.ec) || within .cw 0 stream || within .grid 0 region || within .best 0 region

/-- Commands that write RES0 to RES3 (spec/10_state.md R59). -/
def writesResults : Instr → Bool
  | .capChars | .capGeom | .capInfo | .capCci | .capFmt | .capVer => true
  | .gfMul | .gfLog | .gfExp | .gfGen | .freeCount => true
  | .nop | .rsBlock | .rsEncode | .interleave | .buildFunc | .placeData => false
  | .maskApply | .maskScore | .maskSelect | .encode => false

/-- Commands that write CW_BITS (spec/10_state.md R58). -/
def writesCwBits : Instr → Bool
  | .interleave | .encode => true
  | .nop | .capChars | .capGeom | .capInfo | .capCci | .capFmt | .capVer => false
  | .gfMul | .gfLog | .gfExp | .gfGen | .rsBlock | .rsEncode => false
  | .buildFunc | .placeData | .freeCount | .maskApply | .maskScore | .maskSelect => false

/-- Commands that commit to BEST and write BEST_MASK (spec/10_state.md R60). -/
def commits : Instr → Bool
  | .maskApply | .maskSelect | .encode => true
  | .nop | .capChars | .capGeom | .capInfo | .capCci | .capFmt | .capVer => false
  | .gfMul | .gfLog | .gfExp | .gfGen | .rsBlock | .rsEncode | .interleave => false
  | .buildFunc | .placeData | .freeCount | .maskScore => false

/-- Commands that read VERSION (spec/30_encoding.md R151, spec/60_exceptions.md R501). -/
def readsVersion : Instr → Bool
  | .capChars | .capGeom | .capInfo | .capCci | .capVer => true
  | .rsEncode | .interleave | .buildFunc | .placeData | .freeCount => true
  | .maskApply | .maskScore | .maskSelect | .encode => true
  | .nop | .capFmt | .gfMul | .gfLog | .gfExp | .gfGen | .rsBlock => false

/-- The addresses whose bytes command `i` reads for latched operands `p` before it has written them itself (R111). -/
def readprint (i : Instr) (p : Pend) (a : Nat) : Bool :=
  let within := fun (b : Buf) (off n : Nat) => Nat.ble (b.base + off) a && Nat.blt a (b.base + off + n)
  let e := cap p.lv p.v
  let region := size p.v * size p.v
  match i with
  | .nop | .capChars | .capGeom | .capInfo | .capCci | .capFmt | .capVer => false
  | .gfMul | .gfLog | .gfExp | .gfGen | .buildFunc => false
  | .rsBlock => within .msg p.src p.len
  | .rsEncode | .encode => within .msg 0 e.dataCW
  | .interleave => within .msg 0 e.dataCW || within .ecc 0 (e.blocks * e.ec)
  | .placeData => within .cw 0 ((p.cwBits.toNat + 7) / 8) || within .grid 0 region
  | .freeCount | .maskApply | .maskSelect => within .grid 0 region
  | .maskScore => within .best 0 region

/-- The premise of a claim about a host program that requires success (spec/60_exceptions.md R535): ERR = 0. -/
def State.ok (s : State) : Bool := !s.status.err

/-! ### Completions, field by field (spec/60_exceptions.md R510) -/

/-- `s` after a completion without error that leaves RES0 to RES3 at `r` and changes nothing else. -/
def State.succeeded (s : State) (r : Results) : State :=
  { s with res := r, status := { s.status with done := true }, pend := none }

/-- `s` after a completion with the error of the given code. -/
def State.erred (s : State) (code : BitVec 8) : State :=
  { s with status := { s.status with err := true, errCode := code }, pend := none }

/-- `s` with other live operand registers: none of PEND's (spec/30_encoding.md R152). -/
def State.withLive (s : State) (v : BitVec 6) (lv : BitVec 2) (a0 a1 a2 : Word) (cb : BitVec 16) : State :=
  { s with version := v, level := lv, arg0 := a0, arg1 := a1, arg2 := a2, cwBits := cb }

/-- 1 ≤ V ≤ 40 of the latched version (spec/30_encoding.md R161). -/
abbrev Pend.VersionInRange (p : Pend) : Prop := 1 ≤ p.version.toNat ∧ p.version.toNat ≤ 40

/-! ### Buffers by address -/

/-- MSG[k .. k+n−1]. -/
def State.msgBytes (s : State) (k n : Nat) : List Byte := (List.range n).map fun i => s.mem.read (0x01000 + k + i)

/-- First MSG index of block `b` (spec/41_reed_solomon.md R258). -/
def blockStart (e : CapEntry) (b : Nat) : Nat :=
  if b < e.g1Blocks then b * e.g1Data else e.g1Blocks * e.g1Data + (b - e.g1Blocks) * e.g2Data

/-- Data codewords of block `b` (R258). -/
def blockLen (e : CapEntry) (b : Nat) : Nat := if b < e.g1Blocks then e.g1Data else e.g2Data

/-- The list `out` of R266, loop by loop. -/
def State.composedOut (s : State) (e : CapEntry) : List Byte :=
  ((List.range (max e.g1Data e.g2Data)).flatMap fun i =>
    (List.range e.blocks).filterMap fun b =>
      if i < blockLen e b then some (s.mem.read (0x01000 + blockStart e b + i)) else none)
  ++ (List.range e.ec).flatMap fun i =>
    (List.range e.blocks).map fun b => s.mem.read (0x02000 + b * e.ec + i)

/-- Stream bit S[k] of CW (spec/41_reed_solomon.md R267). -/
def State.streamBit (s : State) (k : Nat) : Bool := (s.mem.read (0x03000 + k / 8)).getLsbD (7 - k % 8)

/-- The bus address of GRID's cell (r, c) for version `v` (spec/10_state.md R72, spec/20_memory.md R101). -/
def gridAddr (v r c : Nat) : Nat := 0x08000 + r * size v + c

/-- The bus address of BEST's cell (r, c) for version `v`. -/
def bestAddr (v r c : Nat) : Nat := 0x10000 + r * size v + c

/-- Cell(GRID, r, c). -/
def State.gridCell (s : State) (v r c : Nat) : Cell := Cell.ofByte (s.mem.read (gridAddr v r c))

/-- Cell(BEST, r, c). -/
def State.bestCell (s : State) (v r c : Nat) : Cell := Cell.ofByte (s.mem.read (bestAddr v r c))

/-- The coordinates of an n×n region, row-major. -/
def coordinates (n : Nat) : List (Nat × Nat) := (List.range n).flatMap fun r => (List.range n).map fun c => (r, c)

/-- #{ region cells of GRID satisfying `q` }. -/
def State.countCells (s : State) (v : Nat) (q : Cell → Bool) : Nat :=
  (coordinates (size v)).countP fun rc => q (s.gridCell v rc.1 rc.2)

/-- The free cells of GRID in scan order (spec/42_placement.md R340, R341). -/
def State.freeInScan (s : State) (v : Nat) : List (Nat × Nat) :=
  (scan (size v)).filter fun rc => (s.gridCell v rc.1 rc.2).isFree

/-- P(0), P(1), …: the free cells BUILD_FUNC leaves, in scan order (R343). -/
def placementOrder (v : Nat) : List (Nat × Nat) := (scan (size v)).filter fun rc => (funcCell v rc.1 rc.2).isFree

/-- Cell (r, c) of Candidate(GRID, lv, m): format bits, then masking of the DATA cells (spec/43_mask.md R385, R387, R400). -/
def State.candidateAt (s : State) (v lv m r c : Nat) : Cell :=
  match formatBitAt (size v) r c with
  | some i => .func ((formatInfo lv m).testBit i)
  | none =>
    match s.gridCell v r c with
    | .data b => .data (b != maskHolds m r c)
    | x => x

/-- The grid of module values of a cell map (R380). -/
def valueGrid (n : Nat) (f : Nat → Nat → Cell) : List (List Bool) :=
  (List.range n).map fun r => (List.range n).map fun c => (f r c).val

/-- The score of candidate `m` of GRID. -/
def State.candidateScore (s : State) (v lv m : Nat) : Score := score (size v) (valueGrid (size v) (s.candidateAt v lv m))

/-- PEN_TOTAL and PEN_N1 to PEN_N4 hold a score (R394, R402). -/
def Score.registers (p : Score) : Penalties where
  total := BitVec.ofNat 32 (p.n1 + p.n2 + p.n3 + p.n4)
  n1 := BitVec.ofNat 32 p.n1
  n2 := BitVec.ofNat 32 p.n2
  n3 := BitVec.ofNat 32 p.n3
  n4 := BitVec.ofNat 32 p.n4

/-! ### Polynomials -/

/-- The remainder of a GF(2) polynomial of degree below `k + deg` modulo `g` of degree `deg`, bits as coefficients. -/
def gf2Mod (deg g : Nat) : Nat → Nat → Nat
  | 0, x => x
  | k + 1, x => gf2Mod deg g k (if x.testBit (k + deg) then x ^^^ (g <<< k) else x)

/-- The product of two bytes as GF(2) polynomials, not reduced (spec/41_reed_solomon.md R250). -/
def gf2Product (a b : Byte) : Nat :=
  (List.range 8).foldl (fun acc i => if b.getLsbD i then acc ^^^ (a.toNat <<< i) else acc) 0

/-- A polynomial, highest degree first, times (x − r) (R254). -/
def timesRoot (g : List Byte) (r : Byte) : List Byte :=
  List.zipWith (· ^^^ ·) (g ++ [0#8]) (0#8 :: g.map (gfMul r))

/-- The value of a polynomial, highest degree first, at `x`. -/
def evalPoly (c : List Byte) (x : Byte) : Byte := c.foldl (fun acc k => gfMul acc x ^^^ k) 0#8

/-! ### The penalty rules by position (spec/43_mask.md R390 to R392) -/

/-- The module value at (r, c). -/
def valueAt (x : List (List Bool)) (r c : Nat) : Bool := (x.getD r []).getD c false

/-- Line `l` of an n×n grid at position `k`: rows first, then columns. -/
def lineAt (n : Nat) (x : List (List Bool)) (l k : Nat) : Bool := if l < n then valueAt x l k else valueAt x k (l - n)

/-- Positions i to i+len−1 of a line of `n` values are a maximal run (R390). -/
def maximalRun (n : Nat) (f : Nat → Bool) (i len : Nat) : Bool :=
  decide (i + len ≤ n) && (List.range len).all (fun k => f (i + k) == f i)
    && (i == 0 || f (i - 1) != f i) && (i + len == n || f (i + len) != f i)

/-- N1 of R390, by position. -/
def runsByPosition (n : Nat) (x : List (List Bool)) : Nat :=
  ((List.range (2 * n)).map fun l => ((List.range n).map fun i => ((List.range (n + 1)).map fun len =>
    if 5 ≤ len ∧ maximalRun n (lineAt n x l) i len = true then len - 2 else 0).sum).sum).sum

/-- The number of 2×2 blocks of R391. -/
def blocksByPosition (n : Nat) (x : List (List Bool)) : Nat :=
  (coordinates (n - 1)).countP fun rc =>
    valueAt x rc.1 rc.2 == valueAt x rc.1 (rc.2 + 1) && valueAt x rc.1 rc.2 == valueAt x (rc.1 + 1) rc.2
      && valueAt x rc.1 rc.2 == valueAt x (rc.1 + 1) (rc.2 + 1)

/-- The number of (line, k) whose 11 values are P1 or P2 (R392). -/
def motifsByPosition (n : Nat) (x : List (List Bool)) : Nat :=
  ((List.range (2 * n)).map fun l => (List.range (n - 10)).countP fun k =>
    let w := (List.range 11).map fun j => lineAt n x l (k + j)
    w == [true, false, true, true, true, false, true, false, false, false, false]
      || w == [false, false, false, false, true, false, true, true, true, false, true]).sum

/-- The number of dark modules (R393). -/
def darkByPosition (n : Nat) (x : List (List Bool)) : Nat := (coordinates n).countP fun rc => valueAt x rc.1 rc.2

end Sys2Proof.Machine
end

