-- ==== Sys2Proof/Certificates/Slice0/Obligations.lean ====
section
/-! DEFINITION. The statements for the provers, one definition each, from the numbered rules of spec/. -/

section

open Sys2Proof Sys2Proof.Machine

/-! ### Commands and their words -/

/-- The engine's turn runs `exec` of the instruction PEND's word decodes to, and nothing else (spec/10_state.md R78;
which agent moves is the model's script, log entry 2). -/
def Obligations.StepRunsDecodedCommand : Prop :=
  (∀ (s : State) (p : Pend) (i : Instr) (rest : List Event), s.pend = some p → decode p.word = .ok i →
    (s.script = .engine :: rest → step s = exec i { s with script := rest }) ∧
      (s.script = [] → step s = exec i s)) ∧
  (∀ (s : State) (rest : List Event), s.pend = none →
    (s.script = .engine :: rest → step s = .next { s with script := rest }) ∧ (s.script = [] → step s = .next s)) ∧
  (∀ (s : State) (a : Addr) (d : Word) (draw : List Host.Cell) (rest : List Event),
    (s.script = .read a :: rest → step s = .next ({ s with script := rest }.hostRead a)) ∧
      (s.script = .write a d :: rest → step s = .next ({ s with script := rest }.hostWrite a d)) ∧
      (s.script = .hardReset draw :: rest → step s = .next ({ s with script := rest }.hardReset draw))) ∧
  (∀ (s : State) (i : Instr), step (s.withFetchWord 32 (encode i).toNat) = exec i (s.launch (encode i)))

/-- Decode and encode agree on every command, and every word that decodes is the word of one command
(spec/30_encoding.md R150, R151, R154). -/
def Obligations.DecodeEncodeAgree : Prop :=
  (∀ i : Instr, i.wf = true → wordWf (encode i) = true ∧ decode (encode i) = .ok i ∧
    decodeBytes (bytesOfWord (encode i)) = .ok (i, []) ∧ decodeTableWord 32 (encode i).toNat = some i) ∧
  (∀ (w : Word) (i : Instr), decode w = .ok i → w = encode i) ∧
  (∀ w : Word, (∃ i, decode w = .ok i) ↔ wordWf w = true) ∧
  (∀ w : Word, wordWf w = true ↔ (w.extractLsb' 8 24 = 0#24 ∧ (w.extractLsb' 0 8).toNat ∈
    [0x00, 0x10, 0x11, 0x12, 0x13, 0x14, 0x15, 0x20, 0x21, 0x22, 0x23, 0x24, 0x25, 0x26, 0x30, 0x31, 0x32,
      0x40, 0x41, 0x42, 0x50]))

/-- A few words of R151's map, written out, decode to the commands they stand for; neighbours are refused by name. -/
def Obligations.WordsOfTheOpcodeMapDecode : Prop :=
  decode 0b00000000000000000000000000000000#32 = .ok .nop ∧
  decode 0b00000000000000000000000000010010#32 = .ok .capInfo ∧
  decode 0b00000000000000000000000000100011#32 = .ok .gfGen ∧
  decode 0b00000000000000000000000000110001#32 = .ok .placeData ∧
  decode 0b00000000000000000000000001000010#32 = .ok .maskSelect ∧
  decodeBytes [0x50#8, 0x00#8, 0x00#8, 0x00#8] = .ok (.encode, []) ∧
  decode 0b00000000000000000000000001010001#32 = .error (.unassignedOpcode 0x51) ∧
  decode 0b00000000000000000000000100000000#32 = .error .zeroFieldSet

/-- R153: an illegal word completes with ILLEGAL_CMD and has no other effect. -/
def Obligations.IllegalWordCompletesWithIllegalCmd : Prop :=
  ∀ (s : State) (p : Pend), s.pend = some p →
    (p.word.extractLsb' 8 24 ≠ 0#24 ∨ (p.word.extractLsb' 0 8).toNat ∉
      [0x00, 0x10, 0x11, 0x12, 0x13, 0x14, 0x15, 0x20, 0x21, 0x22, 0x23, 0x24, 0x25, 0x26, 0x30, 0x31, 0x32,
        0x40, 0x41, 0x42, 0x50]) →
    (s.script = [] → step s = .next (s.erred 0x01#8)) ∧
      ∀ rest : List Event, s.script = .engine :: rest → step s = .next ({ s with script := rest }.erred 0x01#8)

/-! ### Launch and operands -/

/-- R152, the effects of a launch. -/
def Obligations.CmdWriteLaunches : Prop :=
  ∀ (s : State) (w : Word), s.pend = none →
    s.hostWrite 0x0000C#17 w =
      { s with
        lastCmd := w
        pend := some
          { word := w, version := s.version, level := s.level, arg0 := s.arg0, arg1 := s.arg1, arg2 := s.arg2,
            cwBits := s.cwBits }
        status := { s.status with done := false, err := false, errCode := 0x00#8 } } ∧
    (s.hostWrite 0x0000C#17 w).busy = true

/-- R152, R572: a command's completion does not depend on the live operand registers, and only INTERLEAVE and ENCODE write
one of them, CW_BITS. -/
def Obligations.OperandsComeFromPend : Prop :=
  ∀ (i : Instr) (s : State) (p : Pend), s.pend = some p →
    ∃ (t : State) (w : Bool), (w = true → writesCwBits i = true) ∧
      ∀ (v : BitVec 6) (lv : BitVec 2) (a0 a1 a2 : Word) (cb : BitVec 16),
        exec i (s.withLive v lv a0 a1 a2 cb) = .next (t.withLive v lv a0 a1 a2 (if w then t.cwBits else cb))

/-! ### The host bus -/

/-- R101: what stands at every word address. -/
def Obligations.AddressMapAsTabled : Prop :=
  ∀ a : Nat, a < 0x20000 → a % 4 = 0 →
    placeOf a =
      if a = 0x00000 then .reg .id else if a = 0x00004 then .reg .ctrl else if a = 0x00008 then .reg .status
      else if a = 0x0000C then .reg .cmd else if a = 0x00010 then .reg .version else if a = 0x00014 then .reg .level
      else if a = 0x00018 then .reg .arg0 else if a = 0x0001C then .reg .arg1 else if a = 0x00020 then .reg .arg2
      else if a = 0x00024 then .reg .cwBits
      else if a = 0x00028 then .reg .res0 else if a = 0x0002C then .reg .res1
      else if a = 0x00030 then .reg .res2 else if a = 0x00034 then .reg .res3
      else if a = 0x00038 then .reg .bestMask else if a = 0x0003C then .reg .penTotal
      else if a = 0x00040 then .reg .penN1 else if a = 0x00044 then .reg .penN2
      else if a = 0x00048 then .reg .penN3 else if a = 0x0004C then .reg .penN4
      else if a = 0x00050 then .reg .penM0 else if a = 0x00054 then .reg .penM1
      else if a = 0x00058 then .reg .penM2 else if a = 0x0005C then .reg .penM3
      else if a = 0x00060 then .reg .penM4 else if a = 0x00064 then .reg .penM5
      else if a = 0x00068 then .reg .penM6 else if a = 0x0006C then .reg .penM7
      else if a < 0x01000 then .reserved
      else if a < 0x02000 then .window .msg else if a < 0x03000 then .window .ecc else if a < 0x04000 then .window .cw
      else if a < 0x08000 then .reserved
      else if a < 0x10000 then .window .grid else if a < 0x18000 then .window .best
      else .reserved

/-- R50 to R62: the word a host reads at every register's address, busy or not; bits that are no field read 0. -/
def Obligations.RegistersReadAsTheirFields : Prop :=
  ∀ s : State,
    s.busData 0x00000#17 = 0x51520007#32 ∧
    (∀ k, k < 32 → (s.busData 0x00004#17).getLsbD k =
      if k = 0 then s.ctrl.ieDone else if k = 1 then s.ctrl.ieErr else false) ∧
    (∀ k, k < 32 → (s.busData 0x00008#17).getLsbD k =
      if k = 0 then s.pend.isSome else if k = 1 then s.status.done else if k = 2 then s.status.err
      else if k = 3 then s.status.overrun else if k = 4 then s.status.locked else if k = 5 then s.status.outValid
      else if 8 ≤ k ∧ k ≤ 15 then s.status.errCode.getLsbD (k - 8) else false) ∧
    s.busData 0x0000C#17 = s.lastCmd ∧
    (s.busData 0x00010#17).toNat = s.version.toNat ∧ (s.busData 0x00014#17).toNat = s.level.toNat ∧
    s.busData 0x00018#17 = s.arg0 ∧ s.busData 0x0001C#17 = s.arg1 ∧ s.busData 0x00020#17 = s.arg2 ∧
    (s.busData 0x00024#17).toNat = s.cwBits.toNat ∧
    s.busData 0x00028#17 = s.res.r0 ∧ s.busData 0x0002C#17 = s.res.r1 ∧
    s.busData 0x00030#17 = s.res.r2 ∧ s.busData 0x00034#17 = s.res.r3 ∧
    (s.busData 0x00038#17).toNat = s.bestMask.toNat ∧
    s.busData 0x0003C#17 = s.pen.total ∧ s.busData 0x00040#17 = s.pen.n1 ∧ s.busData 0x00044#17 = s.pen.n2 ∧
    s.busData 0x00048#17 = s.pen.n3 ∧ s.busData 0x0004C#17 = s.pen.n4 ∧
    s.busData 0x00050#17 = s.penM.m0 ∧ s.busData 0x00054#17 = s.penM.m1 ∧
    s.busData 0x00058#17 = s.penM.m2 ∧ s.busData 0x0005C#17 = s.penM.m3 ∧
    s.busData 0x00060#17 = s.penM.m4 ∧ s.busData 0x00064#17 = s.penM.m5 ∧
    s.busData 0x00068#17 = s.penM.m6 ∧ s.busData 0x0006C#17 = s.penM.m7

/-- R105, with R53 and R571: what a write to each register does, busy or not, and that a register read does nothing. -/
def Obligations.RegisterWritesAsTabled : Prop :=
  ∀ (s : State) (d : Word),
    (d.getLsbD 31 = false → s.hostWrite 0x00004#17 d = { s with ctrl := ⟨d.getLsbD 0, d.getLsbD 1⟩ }) ∧
    (d.getLsbD 31 = true → s.hostWrite 0x00004#17 d = s.softReset) ∧
    s.hostWrite 0x00008#17 d =
      { s with
        status :=
          { done := s.status.done && !d.getLsbD 1
            err := s.status.err && !d.getLsbD 2
            overrun := s.status.overrun && !d.getLsbD 3
            locked := s.status.locked && !d.getLsbD 4
            outValid := s.status.outValid
            errCode := if d.getLsbD 2 then 0x00#8 else s.status.errCode } } ∧
    (s.pend = none → s.hostWrite 0x0000C#17 d = s.launch d) ∧
    (s.pend ≠ none → s.hostWrite 0x0000C#17 d = { s with status := { s.status with overrun := true } }) ∧
    s.hostWrite 0x00010#17 d = { s with version := d.extractLsb' 0 6 } ∧
    s.hostWrite 0x00014#17 d = { s with level := d.extractLsb' 0 2 } ∧
    s.hostWrite 0x00018#17 d = { s with arg0 := d } ∧
    s.hostWrite 0x0001C#17 d = { s with arg1 := d } ∧
    s.hostWrite 0x00020#17 d = { s with arg2 := d } ∧
    s.hostWrite 0x00024#17 d = { s with cwBits := d.extractLsb' 0 16 } ∧
    s.hostWrite 0x00000#17 d = s ∧
    (∀ a : Addr, 0x00028 ≤ a.toNat → a.toNat < 0x00070 → s.hostWrite a d = s) ∧
    (∀ a : Addr, a.toNat < 0x00070 → s.afterRead a = s)

/-- R551, R553: the registers after either reset; a soft reset keeps every buffer and frees the block to launch again. The
model's choices in it: a hardware reset leaves the buffers of its draw (R552) and the model's own script and log (log
entry 6), and both of those are empty at State.reset and after power-on (log entries 2 and 3). -/
def Obligations.ResetsSetEveryRegister : Prop :=
  let blank := fun (m : Memory) (script : List Event) (log : List Word) =>
    ({ ctrl := ⟨false, false⟩
       status := ⟨false, false, false, false, false, 0x00#8⟩
       lastCmd := 0x00000000#32
       version := 1#6
       level := 0#2
       arg0 := 0x00000000#32
       arg1 := 0x00000000#32
       arg2 := 0x00000000#32
       cwBits := 0x0000#16
       res := ⟨0#32, 0#32, 0#32, 0#32⟩
       bestMask := 0#3
       pen := ⟨0#32, 0#32, 0#32, 0#32, 0#32⟩
       penM := ⟨0#32, 0#32, 0#32, 0#32, 0#32, 0#32, 0#32, 0#32⟩
       pend := none
       mem := m
       script := script
       hostLog := log } : State)
  (∀ (s : State) (d : Word), d.getLsbD 31 = true →
    s.hostWrite 0x00004#17 d = blank s.mem s.script s.hostLog ∧ (s.hostWrite 0x00004#17 d).busy = false ∧
      ∀ w : Word, (s.hostWrite 0x00004#17 d).hostWrite 0x0000C#17 w = (s.hostWrite 0x00004#17 d).launch w) ∧
  (∀ (s : State) (d : Word), d.getLsbD 31 = false →
    s.hostWrite 0x00004#17 d = { s with ctrl := ⟨d.getLsbD 0, d.getLsbD 1⟩ }) ∧
  (∀ (s : State) (draw : List Host.Cell), s.hardReset draw = blank (s.mem.drawn draw) s.script s.hostLog) ∧
  (∀ draw : List Host.Cell, ∃ m : Memory, State.powerOn draw = blank m [] []) ∧
  (∃ m : Memory, State.reset = blank m [] []) ∧
  (∀ (m : Memory) (script : List Event) (log : List Word),
    (blank m script log).irq = false ∧ (blank m script log).busData 0x00000#17 = 0x51520007#32)

/-- R552: every contents of the buffers is the result of some draw, at power-on and at any later hardware reset (log entries
1 and 6). -/
def Obligations.EveryBufferContentsCanBeDrawn : Prop :=
  ∀ (s : State) (m : Memory), s.MemInv → { s with mem := m }.MemInv →
    (∃ draw : List Host.Cell, (s.hardReset draw).mem = m) ∧ ∃ draw : List Host.Cell, (State.powerOn draw).mem = m

/-- R106, R107: window reads and writes while not busy, lane by lane. -/
def Obligations.WindowAccessesWhileIdle : Prop :=
  ∀ (s : State) (a : Addr) (d : Word) (b : Buf), s.pend = none → placeOf (wordAddr a) = .window b →
    (∀ j, j < 4 → (s.busData a).extractLsb' (8 * j) 8 = s.mem.read (wordAddr a + j)) ∧
    (b.isCells = true → s.MemInv → s.busData a &&& 0xF8F8F8F8#32 = 0#32) ∧
    s.afterRead a = s ∧
    s.hostWrite a d =
      { s with
        mem := (s.hostWrite a d).mem
        status := if b.isCells then { s.status with outValid := false } else s.status } ∧
    (∀ j, j < 4 → (s.hostWrite a d).mem.read (wordAddr a + j) =
      if b.isCells then d.extractLsb' (8 * j) 8 &&& 0x07#8 else d.extractLsb' (8 * j) 8) ∧
    (∀ x, x < wordAddr a ∨ wordAddr a + 4 ≤ x → (s.hostWrite a d).mem.read x = s.mem.read x)

/-- R103, R108: address bits 1:0 are ignored; reserved addresses read 0 and ignore writes. -/
def Obligations.UnalignedAndReservedAddresses : Prop :=
  (∀ (s : State) (a : Addr) (d : Word),
    s.busData a = s.busData (a &&& 0x1FFFC#17) ∧ s.afterRead a = s.afterRead (a &&& 0x1FFFC#17) ∧
      s.hostWrite a d = s.hostWrite (a &&& 0x1FFFC#17) d) ∧
  (∀ (s : State) (a : Addr) (d : Word),
    (0x00070 ≤ a.toNat ∧ a.toNat ≤ 0x00FFF) ∨ (0x04000 ≤ a.toNat ∧ a.toNat ≤ 0x07FFF) ∨
      (0x18000 ≤ a.toNat ∧ a.toNat ≤ 0x1FFFF) →
    s.busData a = 0x00000000#32 ∧ s.afterRead a = s ∧ s.hostWrite a d = s)

/-- R110: the window lock while busy; the pending command's result does not depend on such accesses. -/
def Obligations.WindowLockWhileBusy : Prop :=
  ∀ (s : State) (p : Pend) (a : Addr) (d : Word) (b : Buf), s.pend = some p → placeOf (wordAddr a) = .window b →
    s.busData a = 0x00000000#32 ∧
    s.afterRead a = { s with status := { s.status with locked := true } } ∧
    s.hostWrite a d = { s with status := { s.status with locked := true } } ∧
    ∀ i : Instr, ∃ t : State, exec i s = .next t ∧
      exec i (s.hostWrite a d) = .next { t with status := { t.status with locked := true } } ∧
      exec i (s.afterRead a) = .next { t with status := { t.status with locked := true } }

/-- R113, R572, R573: while a command is pending, no host transaction but a soft reset changes the command, its inputs, the
results already there, or what its completion leaves. -/
def Obligations.BusyHostAccessesDoNotInterfere : Prop :=
  ∀ (s : State) (p : Pend) (i : Instr) (e : Event), s.pend = some p → s.StatusInv →
    ((∃ a, e = .read a) ∨ ∃ a d, e = .write a d ∧ ¬(a.toNat / 4 = 1 ∧ d.getLsbD 31 = true)) →
    ∃ s' t t' : State, s.eventMove e = .moved s' ∧ s'.pend = some p ∧ s'.mem = s.mem ∧ s'.res = s.res ∧
      s'.bestMask = s.bestMask ∧ s'.pen = s.pen ∧ s'.penM = s.penM ∧ s'.lastCmd = s.lastCmd ∧
      exec i s = .next t ∧ exec i s' = .next t' ∧ t'.mem = t.mem ∧ t'.res = t.res ∧ t'.bestMask = t.bestMask ∧
      t'.pen = t.pen ∧ t'.penM = t.penM ∧ t'.status.outValid = t.status.outValid ∧
      t'.status.done = t.status.done ∧ t'.status.err = t.status.err ∧ t'.status.errCode = t.status.errCode

/-- R520: IRQ, and what raises and clears it. -/
def Obligations.InterruptFollowsStatusAndEnables : Prop :=
  (∀ s : State, s.irq = true ↔
    (s.status.done = true ∧ s.ctrl.ieDone = true) ∨ (s.status.err = true ∧ s.ctrl.ieErr = true)) ∧
  (∀ (s : State) (x y : Bool), { s with status := { s.status with overrun := x, locked := y } }.irq = s.irq) ∧
  (∀ (i : Instr) (s t : State), exec i s = .next t → s.ctrl.ieDone = true → t.status.done = true → t.irq = true) ∧
  (∀ (i : Instr) (s t : State), exec i s = .next t → s.ctrl.ieErr = true → t.status.err = true → t.irq = true) ∧
  (∀ s : State, s.status.done = true → (s.hostWrite 0x00004#17 0x00000001#32).irq = true) ∧
  (∀ s : State, s.status.err = true → (s.hostWrite 0x00004#17 0x00000002#32).irq = true) ∧
  (∀ s : State, (s.hostWrite 0x00008#17 0x00000006#32).irq = false) ∧
  (∀ (s : State) (w : Word), s.pend = none → (s.hostWrite 0x0000C#17 w).irq = false) ∧
  (∀ (s : State) (draw : List Host.Cell), s.softReset.irq = false ∧ (s.hardReset draw).irq = false)

/-- R521, R535: no step faults or refuses. That `exec`, asked for a completion the spec does not have, faults with
nothingPending is the model's choice (log entry 5); with a command pending it always answers a next state. -/
def Obligations.StepAlwaysAnswersANextState : Prop :=
  (∀ s : State, ∃ t : State, step s = .next t) ∧
  (∀ (k : Nat) (s : State), ∃ t : State, Sys2Proof.core.run k s = .next t) ∧
  (∀ (i : Instr) (s : State), s.pend = none → exec i s = .fault .nothingPending) ∧
  (∀ (i : Instr) (s : State), s.pend ≠ none → ∃ t : State, exec i s = .next t)

/-- R580, R582: a pending command is completed, or abandoned by a reset, within one step more than the script has moves,
whatever the script holds (the script is the model's choice, log entry 2). -/
def Obligations.PendingCommandIsGoneWithinTheScript : Prop :=
  ∀ (s : State) (p : Pend), s.pend = some p →
    ∃ (k : Nat) (t : State), k ≤ s.script.length + 1 ∧ Sys2Proof.core.run k s = .next t ∧ t.pend = none

/-! ### Control and capacity commands -/

/-- R440. -/
def Obligations.NopCompletesWithoutEffect : Prop :=
  ∀ (s : State) (p : Pend), s.pend = some p →
    exec .nop s = .next { s with status := { s.status with done := true }, pend := none }

/-- R201. -/
def Obligations.CapCharsResult : Prop :=
  ∀ (s : State) (p : Pend), s.pend = some p →
    (p.VersionInRange → ∃ r : Results, exec .capChars s = .next (s.succeeded r) ∧
      r.r0.toNat = (let e := cap p.level.toNat p.version.toNat
        match p.arg0.toNat % 4 with
        | 0 => e.numeric
        | 1 => e.alnum
        | 2 => e.byte
        | _ => e.kanji) ∧
      r.r1 = 0#32 ∧ r.r2 = 0#32 ∧ r.r3 = 0#32) ∧
    (¬p.VersionInRange → exec .capChars s = .next (s.erred 0x02#8))

/-- R202. -/
def Obligations.CapGeomResult : Prop :=
  ∀ (s : State) (p : Pend), s.pend = some p →
    let e := cap p.level.toNat p.version.toNat
    (p.VersionInRange → ∃ r : Results, exec .capGeom s = .next (s.succeeded r) ∧
      (r.r0.extractLsb' 16 16).toNat = e.ec ∧ (r.r0.extractLsb' 0 16).toNat = e.dataCW ∧
      (r.r1.extractLsb' 24 8).toNat = e.g2Data ∧ (r.r1.extractLsb' 16 8).toNat = e.g2Blocks ∧
      (r.r1.extractLsb' 8 8).toNat = e.g1Data ∧ (r.r1.extractLsb' 0 8).toNat = e.g1Blocks ∧
      (r.r2.extractLsb' 16 16).toNat = e.blocks ∧ (r.r2.extractLsb' 0 16).toNat = e.totalCW ∧ r.r3 = 0#32) ∧
    (¬p.VersionInRange → exec .capGeom s = .next (s.erred 0x02#8))

/-- R203. -/
def Obligations.CapInfoResult : Prop :=
  ∀ (s : State) (p : Pend), s.pend = some p →
    let v := p.version.toNat
    let a := align v
    (p.VersionInRange → ∃ r : Results, exec .capInfo s = .next (s.succeeded r) ∧
      r.r0.toNat = a.length * 0x10000 + remainderBits v * 0x100 + (4 * (v - 1) + 21) ∧
      r.r1.toNat = a.getD 3 0 * 0x1000000 + a.getD 2 0 * 0x10000 + a.getD 1 0 * 0x100 + a.getD 0 0 ∧
      r.r2.toNat = a.getD 6 0 * 0x10000 + a.getD 5 0 * 0x100 + a.getD 4 0 ∧ r.r3 = 0#32 ∧ a.length ≤ 7) ∧
    (¬p.VersionInRange → exec .capInfo s = .next (s.erred 0x02#8))

/-- R204, with the widths and indicators of R214. -/
def Obligations.CapCciResult : Prop :=
  ∀ (s : State) (p : Pend), s.pend = some p →
    let v := p.version.toNat
    let mode := p.arg0.toNat % 4
    let width :=
      if mode = 0 then (if v ≤ 9 then 10 else if v ≤ 26 then 12 else 14)
      else if mode = 1 then (if v ≤ 9 then 9 else if v ≤ 26 then 11 else 13)
      else if mode = 2 then (if v ≤ 9 then 8 else 16)
      else (if v ≤ 9 then 8 else if v ≤ 26 then 10 else 12)
    (p.VersionInRange →
      exec .capCci s = .next (s.succeeded ⟨BitVec.ofNat 32 (2 ^ mode * 256 + width), 0#32, 0#32, 0#32⟩)) ∧
    (¬p.VersionInRange → exec .capCci s = .next (s.erred 0x02#8))

/-- R205, with the construction of FORMAT by R382 and R383. -/
def Obligations.CapFmtResult : Prop :=
  ∀ (s : State) (p : Pend), s.pend = some p →
    ∃ r : Results, exec .capFmt s = .next (s.succeeded r) ∧ r.r1 = 0#32 ∧ r.r2 = 0#32 ∧ r.r3 = 0#32 ∧
      r.r0.toNat = formatInfo p.level.toNat (p.arg0.toNat % 8) ∧
      (let d := (if p.level.toNat = 0 then 1 else if p.level.toNat = 1 then 0 else if p.level.toNat = 2 then 3 else 2)
          * 8 + p.arg0.toNat % 8
       r.r0.toNat = (d * 1024 + gf2Mod 10 0x537 5 (d * 1024)) ^^^ 0x5412)

/-- R206, with the construction of VERSION_INFO by R330. -/
def Obligations.CapVerResult : Prop :=
  ∀ (s : State) (p : Pend), s.pend = some p →
    let v := p.version.toNat
    (7 ≤ v ∧ v ≤ 40 → ∃ r : Results, exec .capVer s = .next (s.succeeded r) ∧
      r.r0.toNat = versionInfo v ∧ versionInfo v = v * 4096 + gf2Mod 12 0x1F25 6 (v * 4096) ∧
      r.r1 = 0#32 ∧ r.r2 = 0#32 ∧ r.r3 = 0#32) ∧
    (1 ≤ v ∧ v ≤ 6 → exec .capVer s = .next (s.erred 0x03#8)) ∧
    (¬p.VersionInRange → exec .capVer s = .next (s.erred 0x02#8))

/-! ### GF(256) and Reed-Solomon commands -/

/-- R260, with the product as the product of polynomials modulo 0x11D (R250). -/
def Obligations.GfMulResult : Prop :=
  ∀ (s : State) (p : Pend), s.pend = some p →
    exec .gfMul s = .next (s.succeeded
      ⟨BitVec.ofNat 32 (gf2Mod 8 0x11D 7 (gf2Product (p.arg0.extractLsb' 0 8) (p.arg0.extractLsb' 8 8))),
        0#32, 0#32, 0#32⟩)

/-- R261: the logarithm is the exponent below 255 whose power of α the operand is. -/
def Obligations.GfLogResult : Prop :=
  ∀ (s : State) (p : Pend), s.pend = some p →
    (p.arg0.extractLsb' 0 8 ≠ 0#8 → ∃ k : Nat, k < 255 ∧ gfExp k = p.arg0.extractLsb' 0 8 ∧
      exec .gfLog s = .next (s.succeeded ⟨BitVec.ofNat 32 k, 0#32, 0#32, 0#32⟩)) ∧
    (p.arg0.extractLsb' 0 8 = 0#8 → exec .gfLog s = .next (s.erred 0x04#8))

/-- R262, with EXP as the powers of α = 2 (R251). -/
def Obligations.GfExpResult : Prop :=
  (∀ (s : State) (p : Pend), s.pend = some p →
    exec .gfExp s = .next (s.succeeded
      ⟨BitVec.ofNat 32 (gfExp (p.arg0.toNat % 256 % 255)).toNat, 0#32, 0#32, 0#32⟩)) ∧
  gfExp 0 = 1#8 ∧
  (∀ i, i < 254 → (gfExp (i + 1)).toNat =
    (2 * (gfExp i).toNat) ^^^ (if 2 * (gfExp i).toNat ≥ 256 then 0x11D else 0)) ∧
  (∀ i, i < 255 → gfLog (gfExp i) = i)

/-- R263. -/
def Obligations.GfGenResult : Prop :=
  ∀ (s : State) (p : Pend), s.pend = some p →
    let n := (p.arg0.extractLsb' 0 8).toNat
    let j := (p.arg0.extractLsb' 8 8).toNat
    (1 ≤ n ∧ n ≤ 30 ∧ j ≤ n → ∃ (r : Results) (x : Byte), (genPoly n)[j]? = some x ∧
      exec .gfGen s = .next (s.succeeded r) ∧ r.r0.toNat = gfLog x * 256 + x.toNat ∧
      r.r1 = 0#32 ∧ r.r2 = 0#32 ∧ r.r3 = 0#32) ∧
    (¬(1 ≤ n ∧ n ≤ 30 ∧ j ≤ n) → exec .gfGen s = .next (s.erred 0x03#8))

/-- R264: the remainder of the message's bytes in ECC, every other byte of memory and every register as before. -/
def Obligations.RsBlockResult : Prop :=
  ∀ (s : State) (p : Pend), s.pend = some p →
    let src := p.arg0.toNat % 4096
    let len := p.arg1.toNat % 256
    let n := p.arg1.toNat / 256 % 256
    let dst := p.arg2.toNat % 4096
    let legal := 1 ≤ n ∧ n ≤ 30 ∧ src + len ≤ 4096 ∧ dst + n ≤ 4096
    (legal → ∃ t : State, exec .rsBlock s = .next t ∧ t = { s.succeeded s.res with mem := t.mem } ∧
      (∀ i, i < n → (rsRem (s.msgBytes src len) n)[i]? = some (t.mem.read (0x02000 + dst + i))) ∧
      ∀ a, a < 0x02000 + dst ∨ 0x02000 + dst + n ≤ a → t.mem.read a = s.mem.read a) ∧
    (¬legal → exec .rsBlock s = .next (s.erred 0x03#8))

/-- R265: the remainder of every block in ECC, block-major; everything else as before. -/
def Obligations.RsEncodeResult : Prop :=
  ∀ (s : State) (p : Pend), s.pend = some p →
    let e := cap p.level.toNat p.version.toNat
    (p.VersionInRange → ∃ t : State, exec .rsEncode s = .next t ∧ t = { s.succeeded s.res with mem := t.mem } ∧
      (∀ b i, b < e.blocks → i < e.ec →
        (rsRem (s.msgBytes (blockStart e b) (blockLen e b)) e.ec)[i]? = some (t.mem.read (0x02000 + b * e.ec + i))) ∧
      ∀ a, a < 0x02000 ∨ 0x02000 + e.blocks * e.ec ≤ a → t.mem.read a = s.mem.read a) ∧
    (¬p.VersionInRange → exec .rsEncode s = .next (s.erred 0x02#8))

/-- R266: the composed stream in CW and its length in CW_BITS; everything else as before. -/
def Obligations.InterleaveResult : Prop :=
  ∀ (s : State) (p : Pend), s.pend = some p →
    let e := cap p.level.toNat p.version.toNat
    (p.VersionInRange → ∃ t : State, exec .interleave s = .next t ∧
      t = { s.succeeded s.res with mem := t.mem, cwBits := t.cwBits } ∧
      t.cwBits.toNat = 8 * e.totalCW + e.rem ∧ (s.composedOut e).length = e.totalCW ∧
      (∀ k, k < e.totalCW → (s.composedOut e)[k]? = some (t.mem.read (0x03000 + k))) ∧
      (0 < e.rem → t.mem.read (0x03000 + e.totalCW) = 0x00#8) ∧
      ∀ a, a < 0x03000 ∨ 0x03000 + (t.cwBits.toNat + 7) / 8 ≤ a → t.mem.read a = s.mem.read a) ∧
    (¬p.VersionInRange → exec .interleave s = .next (s.erred 0x02#8))

/-! ### Placement commands -/

/-- R332: the region is the function patterns, OUT_VALID is 0, everything else as before. -/
def Obligations.BuildFuncResult : Prop :=
  ∀ (s : State) (p : Pend), s.pend = some p →
    let v := p.version.toNat
    (p.VersionInRange → ∃ t : State, exec .buildFunc s = .next t ∧
      t = { s with mem := t.mem, status := { s.status with done := true, outValid := false }, pend := none } ∧
      (∀ r c, r < size v → c < size v → t.mem.read (gridAddr v r c) = (funcCell v r c).toByte) ∧
      ∀ a, a < 0x08000 ∨ 0x08000 + size v * size v ≤ a → t.mem.read a = s.mem.read a) ∧
    (¬p.VersionInRange → exec .buildFunc s = .next (s.erred 0x02#8))

/-- R341: the checks in their order, then one stream bit per free cell in scan order; everything else as before. -/
def Obligations.PlaceDataResult : Prop :=
  ∀ (s : State) (p : Pend), s.pend = some p →
    let v := p.version.toNat
    let bad := ∃ r c, r < size v ∧ c < size v ∧ (s.gridCell v r c).isInvalid = true
    let matching := s.countCells v Cell.isFree = p.cwBits.toNat
    (¬p.VersionInRange → exec .placeData s = .next (s.erred 0x02#8)) ∧
    (p.VersionInRange → bad → exec .placeData s = .next (s.erred 0x05#8)) ∧
    (p.VersionInRange → ¬bad → ¬matching → exec .placeData s = .next (s.erred 0x06#8)) ∧
    (p.VersionInRange → ¬bad → matching → ∃ t : State, exec .placeData s = .next t ∧
      t = { s with mem := t.mem, status := { s.status with done := true, outValid := false }, pend := none } ∧
      (∀ k r c, (s.freeInScan v)[k]? = some (r, c) →
        t.mem.read (gridAddr v r c) = (if s.streamBit k then 0x03#8 else 0x02#8)) ∧
      (∀ r c, r < size v → c < size v → (r, c) ∉ s.freeInScan v → t.gridCell v r c = s.gridCell v r c) ∧
      ∀ a, a < 0x08000 ∨ 0x08000 + size v * size v ≤ a → t.mem.read a = s.mem.read a)

/-- R342. -/
def Obligations.FreeCountResult : Prop :=
  ∀ (s : State) (p : Pend), s.pend = some p →
    let v := p.version.toNat
    let bad := ∃ r c, r < size v ∧ c < size v ∧ (s.gridCell v r c).isInvalid = true
    (¬p.VersionInRange → exec .freeCount s = .next (s.erred 0x02#8)) ∧
    (p.VersionInRange → bad → exec .freeCount s = .next (s.erred 0x05#8)) ∧
    (p.VersionInRange → ¬bad → ∃ r : Results, exec .freeCount s = .next (s.succeeded r) ∧
      r.r0.toNat = s.countCells v Cell.isFree ∧ r.r1.toNat = s.countCells v (· == .unfilled) ∧
      r.r2.toNat = s.countCells v (· == .reserved) ∧ r.r3 = 0#32)

/-! ### Mask commands -/

/-- R402: the checks in their order, then the candidate in BEST with its score; everything else as before. -/
def Obligations.MaskApplyResult : Prop :=
  ∀ (s : State) (p : Pend), s.pend = some p →
    let v := p.version.toNat
    let lv := p.level.toNat
    let m := p.arg0.toNat % 8
    let bad := ∃ r c, r < size v ∧ c < size v ∧ (s.gridCell v r c).isInvalid = true
    let complete := ∀ r c, r < size v → c < size v → (s.candidateAt v lv m r c).isComplete = true
    (¬p.VersionInRange → exec .maskApply s = .next (s.erred 0x02#8)) ∧
    (p.VersionInRange → bad → exec .maskApply s = .next (s.erred 0x05#8)) ∧
    (p.VersionInRange → ¬bad → ¬complete → exec .maskApply s = .next (s.erred 0x07#8)) ∧
    (p.VersionInRange → ¬bad → complete → ∃ t : State, exec .maskApply s = .next t ∧
      t =
        { s with
          mem := t.mem
          bestMask := BitVec.ofNat 3 m
          pen := (s.candidateScore v lv m).registers
          status := { s.status with done := true, outValid := true }
          pend := none } ∧
      (∀ r c, r < size v → c < size v → t.mem.read (bestAddr v r c) = (s.candidateAt v lv m r c).toByte) ∧
      ∀ a, a < 0x10000 ∨ 0x10000 + size v * size v ≤ a → t.mem.read a = s.mem.read a)

/-- R403: BEST is scored; nothing else changes. -/
def Obligations.MaskScoreResult : Prop :=
  ∀ (s : State) (p : Pend), s.pend = some p →
    let v := p.version.toNat
    let bad := ∃ r c, r < size v ∧ c < size v ∧ (s.bestCell v r c).isInvalid = true
    let open' := ∃ r c, r < size v ∧ c < size v ∧ (s.bestCell v r c = .unfilled ∨ s.bestCell v r c = .reserved)
    (¬p.VersionInRange → exec .maskScore s = .next (s.erred 0x02#8)) ∧
    (p.VersionInRange → bad → exec .maskScore s = .next (s.erred 0x05#8)) ∧
    (p.VersionInRange → ¬bad → open' → exec .maskScore s = .next (s.erred 0x07#8)) ∧
    (p.VersionInRange → ¬bad → ¬open' → exec .maskScore s = .next
      { s with
        pen := (score (size v) (valueGrid (size v) (s.bestCell v))).registers
        status := { s.status with done := true }
        pend := none })

/-- R410, R412: all eight totals, and the least mask of least total committed; everything else as before. -/
def Obligations.MaskSelectResult : Prop :=
  ∀ (s : State) (p : Pend), s.pend = some p →
    let v := p.version.toNat
    let lv := p.level.toNat
    let total := fun m => (s.candidateScore v lv m).total
    let bad := ∃ r c, r < size v ∧ c < size v ∧ (s.gridCell v r c).isInvalid = true
    let complete := ∀ r c, r < size v → c < size v → (s.candidateAt v lv 0 r c).isComplete = true
    (¬p.VersionInRange → exec .maskSelect s = .next (s.erred 0x02#8)) ∧
    (p.VersionInRange → bad → exec .maskSelect s = .next (s.erred 0x05#8)) ∧
    (p.VersionInRange → ¬bad → ¬complete → exec .maskSelect s = .next (s.erred 0x07#8)) ∧
    (p.VersionInRange → ¬bad → complete → ∃ (t : State) (m : Nat), exec .maskSelect s = .next t ∧
      m < 8 ∧ (∀ k, k < 8 → total m ≤ total k) ∧ (∀ k, k < m → total m < total k) ∧
      t =
        { s with
          mem := t.mem
          bestMask := BitVec.ofNat 3 m
          pen := (s.candidateScore v lv m).registers
          penM :=
            { m0 := BitVec.ofNat 32 (total 0), m1 := BitVec.ofNat 32 (total 1), m2 := BitVec.ofNat 32 (total 2),
              m3 := BitVec.ofNat 32 (total 3), m4 := BitVec.ofNat 32 (total 4), m5 := BitVec.ofNat 32 (total 5),
              m6 := BitVec.ofNat 32 (total 6), m7 := BitVec.ofNat 32 (total 7) }
          status := { s.status with done := true, outValid := true }
          pend := none } ∧
      (∀ r c, r < size v → c < size v → t.mem.read (bestAddr v r c) = (s.candidateAt v lv m r c).toByte) ∧
      ∀ a, a < 0x10000 ∨ 0x10000 + size v * size v ≤ a → t.mem.read a = s.mem.read a)

/-! ### ENCODE -/

/-- R441: ENCODE never fails past its version check, and leaves what its five stages leave one after another. -/
def Obligations.EncodeEqualsItsFiveStages : Prop :=
  ∀ (s : State) (p : Pend), s.pend = some p →
    (p.VersionInRange → ∃ t1 t2 t3 t4 t5 : State,
      exec .rsEncode s = .next t1 ∧
      exec .interleave { t1 with pend := some p } = .next t2 ∧
      exec .buildFunc { t2 with pend := some p } = .next t3 ∧
      exec .placeData { t3 with pend := some { p with cwBits := t2.cwBits } } = .next t4 ∧
      exec .maskSelect { t4 with pend := some p } = .next t5 ∧
      exec .encode s = .next t5 ∧
      t5.status = { s.status with done := true, outValid := true }) ∧
    (¬p.VersionInRange → exec .encode s = .next (s.erred 0x02#8))

/-- R344: after ENCODE, the modules of BEST at the placement order, unmasked, are the bits of MSG's data codewords,
de-interleaved. -/
def Obligations.EncodedSymbolCarriesTheMessage : Prop :=
  ∀ (s t : State) (p : Pend), s.pend = some p → p.VersionInRange → s.status.err = false →
    exec .encode s = .next t → t.status.err = false →
    let v := p.version.toNat
    let e := cap p.level.toNat v
    ∀ b i j, b < e.blocks → i < blockLen e b → j < 8 →
      let k := if i < e.g1Data then i * e.blocks + b else e.g1Data * e.blocks + (b - e.g1Blocks)
      ∃ r c, (placementOrder v)[8 * k + j]? = some (r, c) ∧
        t.bestCell v r c =
          .data ((s.mem.read (0x01000 + blockStart e b + i)).getLsbD (7 - j) != maskHolds t.bestMask.toNat r c)

/-- R403, R404: after a commit, MASK_SCORE of the same version completes without error and changes nothing: the score is
already there. -/
def Obligations.RescoringACommitChangesNothing : Prop :=
  ∀ (i : Instr) (s t : State) (p q : Pend), commits i = true → s.pend = some p → s.status.err = false →
    exec i s = .next t → t.status.err = false → q.version = p.version →
    exec .maskScore { t with pend := some q } = .next t

/-! ### Errors and frames -/

/-- R502: BAD_VERSION is the first check of every command that reads VERSION. -/
def Obligations.BadVersionIsCheckedFirst : Prop :=
  ∀ (i : Instr) (s : State) (p : Pend), s.pend = some p → readsVersion i = true →
    (p.version.toNat = 0 ∨ 40 < p.version.toNat) → exec i s = .next (s.erred 0x02#8)

/-- R509 for every command but ENCODE, whose error completion is stated in EncodeEqualsItsFiveStages. -/
def Obligations.AnErrorHasNoEffect : Prop :=
  ∀ (i : Instr) (s t : State), i ≠ .encode → s.status.err = false → exec i s = .next t → t.status.err = true →
    t = s.erred t.status.errCode ∧ 2 ≤ t.status.errCode.toNat ∧ t.status.errCode.toNat ≤ 7

/-- R111: every byte of memory outside the command's written ranges reads as before. -/
def Obligations.CommandsWriteOnlyTheirRanges : Prop :=
  ∀ (i : Instr) (s t : State) (p : Pend) (a : Nat), s.pend = some p → exec i s = .next t → footprint i p a = false →
    t.mem.read a = s.mem.read a

/-- R59 to R63: what registers a command can write. -/
def Obligations.CommandsWriteOnlyTheirRegisters : Prop :=
  ∀ (i : Instr) (s t : State), exec i s = .next t →
    t.ctrl = s.ctrl ∧ t.lastCmd = s.lastCmd ∧ t.version = s.version ∧ t.level = s.level ∧ t.arg0 = s.arg0 ∧
    t.arg1 = s.arg1 ∧ t.arg2 = s.arg2 ∧ t.script = s.script ∧ t.hostLog = s.hostLog ∧ t.pend = none ∧
    t.status.overrun = s.status.overrun ∧ t.status.locked = s.status.locked ∧
    (writesCwBits i = false → t.cwBits = s.cwBits) ∧ (writesResults i = false → t.res = s.res) ∧
    (commits i = false → t.bestMask = s.bestMask) ∧ (commits i = false → i ≠ .maskScore → t.pen = s.pen) ∧
    (i ≠ .maskSelect → i ≠ .encode → t.penM = s.penM) ∧
    (commits i = false → i ≠ .buildFunc → i ≠ .placeData → t.status.outValid = s.status.outValid)

/-- R79: what sets and what clears OUT_VALID. -/
def Obligations.OutValidEvents : Prop :=
  (∀ (i : Instr) (s t : State), s.status.err = false → exec i s = .next t → t.status.err = false →
    t.status.outValid = if commits i then true else if i = .buildFunc ∨ i = .placeData then false else s.status.outValid) ∧
  (∀ (i : Instr) (s t : State), i ≠ .encode → s.status.err = false → exec i s = .next t → t.status.err = true →
    t.status.outValid = s.status.outValid) ∧
  (∀ (s : State) (a : Addr) (d : Word), (s.hostWrite a d).status.outValid =
    if s.pend = none ∧ 0x08000 ≤ a.toNat ∧ a.toNat ≤ 0x17FFF then false
    else if a.toNat / 4 = 1 ∧ d.getLsbD 31 = true then false
    else s.status.outValid) ∧
  (∀ (s : State) (a : Addr), (s.hostRead a).status.outValid = s.status.outValid) ∧
  (∀ (s : State) (draw : List Host.Cell), (s.hardReset draw).status.outValid = false)

/-- R111: a command's result depends on no byte of memory outside the ranges it reads. -/
def Obligations.CommandsReadOnlyTheirRanges : Prop :=
  ∀ (i : Instr) (s t : State) (p : Pend) (m : Memory), s.pend = some p → s.status.err = false → exec i s = .next t →
    (∀ a, readprint i p a = true → m.read a = s.mem.read a) →
    ∃ m' : Memory, exec i { s with mem := m } = .next { t with mem := m' } ∧
      (t.status.err = false → ∀ a, footprint i p a = true → m'.read a = t.mem.read a)

/-! ### Arithmetic -/

/-- R253, with the product of R250. -/
def Obligations.FieldLaws : Prop :=
  (∀ a b : Byte, (gfMul a b).toNat = gf2Mod 8 0x11D 7 (gf2Product a b)) ∧
  (∀ a b : Byte, gfMul a b = gfMul b a) ∧
  (∀ a b c : Byte, gfMul (gfMul a b) c = gfMul a (gfMul b c)) ∧
  (∀ a b c : Byte, gfMul a (b ^^^ c) = gfMul a b ^^^ gfMul a c) ∧
  (∀ a b c : Byte, a ^^^ b = b ^^^ a ∧ (a ^^^ b) ^^^ c = a ^^^ (b ^^^ c) ∧ a ^^^ 0#8 = a ∧ a ^^^ a = 0#8) ∧
  (∀ a : Byte, gfMul 1#8 a = a ∧ gfMul a 0#8 = 0#8) ∧
  (∀ a : Byte, a ≠ 0#8 → gfMul a (gfExp ((255 - gfLog a) % 255)) = 1#8)

/-- R254: every generator polynomial is the product of its linear factors, monic, with no zero coefficient. -/
def Obligations.GeneratorsAreProducts : Prop :=
  ∀ n, 1 ≤ n → n ≤ 30 →
    genPoly n = (List.range n).foldl (fun g i => timesRoot g (gfExp i)) [1#8] ∧
    (genPoly n).length = n + 1 ∧ (genPoly n)[0]? = some 1#8 ∧ 0#8 ∉ genPoly n

/-- R257 (a), (b), (c): the remainder of zeros, linearity, leading zeros. -/
def Obligations.RemainderLaws : Prop :=
  ∀ n, 1 ≤ n → n ≤ 30 →
    (∀ k : Nat, rsRem (List.replicate k 0#8) n = List.replicate n 0#8) ∧
    (∀ m : List Byte, (rsRem m n).length = n) ∧
    (∀ m m' : List Byte, m.length = m'.length →
      rsRem (List.zipWith (· ^^^ ·) m m') n = List.zipWith (· ^^^ ·) (rsRem m n) (rsRem m' n)) ∧
    (∀ (k : Nat) (m : List Byte), rsRem (List.replicate k 0#8 ++ m) n = rsRem m n)

/-- R257 (d), by the roots of GEN_n (R254): every codeword has α^0 to α^(n−1) as roots. -/
def Obligations.CodewordsHaveTheGeneratorsRoots : Prop :=
  ∀ n, 1 ≤ n → n ≤ 30 → ∀ (m : List Byte) (i : Nat), i < n → evalPoly (m ++ rsRem m n) (gfExp i) = 0#8

/-! ### Geometry -/

/-- R340: every position of Scan(N), and that it is every cell but column 6 exactly once. -/
def Obligations.ScanOrder : Prop :=
  ∀ v, 1 ≤ v → v ≤ 40 →
    let n := size v
    (scan n).length = n * (n - 1) ∧ (scan n).Nodup ∧
    (∀ r c, (r, c) ∈ scan n ↔ r < n ∧ c < n ∧ c ≠ 6) ∧
    ∀ k, k < n * (n - 1) →
      let q := k / (2 * n)
      let j := k % (2 * n)
      let right := if 6 < n - 1 - 2 * q then n - 1 - 2 * q else n - 2 - 2 * q
      (scan n)[k]? = some (if q % 2 = 0 then n - 1 - j / 2 else j / 2, right - j % 2)

/-- R321 to R330: every function pattern's cells, and no function cell but theirs. -/
def Obligations.FunctionPatterns : Prop :=
  ∀ v, 1 ≤ v → v ≤ 40 →
    let n := size v
    let skipped := [(6, 6), (6, n - 7), (n - 7, 6)]
    (∀ dr dc : Nat, dr < 7 → dc < 7 →
      let x := Cell.func (decide (max ((dr : Int) - 3).natAbs ((dc : Int) - 3).natAbs ≠ 2))
      funcCell v dr dc = x ∧ funcCell v dr (n - 7 + dc) = x ∧ funcCell v (n - 7 + dr) dc = x) ∧
    (∀ i, i < 8 →
      funcCell v 7 i = .func false ∧ funcCell v i 7 = .func false ∧
      funcCell v 7 (n - 1 - i) = .func false ∧ funcCell v i (n - 8) = .func false ∧
      funcCell v (n - 8) i = .func false ∧ funcCell v (n - 1 - i) 7 = .func false) ∧
    (∀ a b dr dc : Nat, a ∈ align v → b ∈ align v → (a, b) ∉ skipped → dr < 5 → dc < 5 →
      funcCell v (a - 2 + dr) (b - 2 + dc) = .func (decide (max ((dr : Int) - 2).natAbs ((dc : Int) - 2).natAbs ≠ 1))) ∧
    (∀ i, 8 ≤ i → i ≤ n - 9 →
      funcCell v 6 i = .func (decide (i % 2 = 0)) ∧ funcCell v i 6 = .func (decide (i % 2 = 0))) ∧
    funcCell v (n - 8) 8 = .func true ∧
    (∀ i, i < 15 →
      let first := if i < 6 then (i, 8) else if i = 6 then (7, 8) else if i = 7 then (8, 8) else if i = 8 then (8, 7)
        else (8, 14 - i)
      let second := if i < 8 then (8, n - 1 - i) else (n - 15 + i, 8)
      funcCell v first.1 first.2 = .reserved ∧ funcCell v second.1 second.2 = .reserved ∧
      ∀ r c, r < n → c < n → (formatBitAt n r c = some i ↔ (r, c) = first ∨ (r, c) = second)) ∧
    (7 ≤ v → ∀ i, i < 18 →
      funcCell v (i / 3) (n - 11 + i % 3) = .func ((versionInfo v).testBit i) ∧
      funcCell v (n - 11 + i % 3) (i / 3) = .func ((versionInfo v).testBit i)) ∧
    (∀ r c : Nat, r < n → c < n → funcCell v r c ≠ .unfilled →
      (r ≤ 7 ∧ c ≤ 7) ∨ (r ≤ 7 ∧ n - 8 ≤ c) ∨ (n - 8 ≤ r ∧ c ≤ 7) ∨ r = 6 ∨ c = 6 ∨ (r, c) = (n - 8, 8) ∨
      formatBitAt n r c ≠ none ∨
      (7 ≤ v ∧ ((r ≤ 5 ∧ n - 11 ≤ c ∧ c ≤ n - 9) ∨ (c ≤ 5 ∧ n - 11 ≤ r ∧ r ≤ n - 9))) ∨
      ∃ a b : Nat, a ∈ align v ∧ b ∈ align v ∧ (a, b) ∉ skipped ∧ ((r : Int) - a).natAbs ≤ 2 ∧ ((c : Int) - b).natAbs ≤ 2)

/-- R336, R343: the free cells BUILD_FUNC leaves are as many as the stream has bits at every level, and scan order lists
each of them once. -/
def Obligations.FreeCellsMatchTheStream : Prop :=
  ∀ v, 1 ≤ v → v ≤ 40 →
    (∀ lv, lv < 4 → (placementOrder v).length = 8 * (cap lv v).totalCW + (cap lv v).rem ∧
      (funcGrid v).count Cell.isFree = (placementOrder v).length) ∧
    (placementOrder v).Nodup ∧
    ∀ r c, r < size v → c < size v → ((r, c) ∈ placementOrder v ↔ (funcCell v r c).isFree = true)

/-- R385, R400: a candidate is incomplete exactly where GRID holds code 0 or code 1 outside the 30 format cells, whatever the
mask, and GRID's DATA cells outside them are its own, XORed with the mask. R401's wording differs at the format cells: it
makes code 0 anywhere in the region incomplete and keeps every DATA cell, where R385 overwrites all 30 cells whatever they
held. That the model follows R385 and R400 there is its choice (log entry 15). -/
def Obligations.CompletenessIsTheSameForEveryMask : Prop :=
  ∀ (s : State) (v lv m : Nat),
    (∀ r c, r < size v → c < size v → (s.gridCell v r c).isInvalid = false) →
    let g := s.readGrid .grid v
    ((candidate (size v) lv m g).complete = false ↔
      ∃ r c, r < size v ∧ c < size v ∧ formatBitAt (size v) r c = none ∧
        (s.gridCell v r c = .unfilled ∨ s.gridCell v r c = .reserved)) ∧
    ∀ r c b, r < size v → c < size v → formatBitAt (size v) r c = none → s.gridCell v r c = .data b →
      (candidate (size v) lv m g).get r c = .data (b != maskHolds m r c)

/-! ### Penalty -/

/-- R390 to R394: the four rules by position. -/
def Obligations.PenaltyRulesByPosition : Prop :=
  ∀ (n : Nat) (x : List (List Bool)), 21 ≤ n → x.length = n → (∀ row ∈ x, row.length = n) →
    let q := 20 * darkByPosition n x / (n * n)
    (score n x).n1 = runsByPosition n x ∧
    (score n x).n2 = 3 * blocksByPosition n x ∧
    (score n x).n3 = 40 * motifsByPosition n x ∧
    (score n x).n4 = 10 * min ((q : Int) - 10).natAbs ((q : Int) - 9).natAbs ∧
    (score n x).total = (score n x).n1 + (score n x).n2 + (score n x).n3 + (score n x).n4

/-- R395: the bounds, for every grid of a symbol's size. -/
def Obligations.PenaltyBounds : Prop :=
  ∀ (n : Nat) (x : List (List Bool)), 21 ≤ n → n ≤ 177 → x.length = n → (∀ row ∈ x, row.length = n) →
    (score n x).n1 ≤ 61950 ∧ (score n x).n2 ≤ 92928 ∧ (score n x).n3 ≤ 2364720 ∧ (score n x).n4 ≤ 100 ∧
    (score n x).total ≤ 2519698

/-! ### Invariants -/

/-- The buffers keep their canonical form, inside their windows and three bits to a cell (R70 to R75); STATUS stays
consistent and PEND stays the last accepted word (R152, R501, R510, R531). -/
def Obligations.StepKeepsMemoryAndStatusInvariants : Prop :=
  (∀ s t : State, s.MemInv → step s = .next t → t.MemInv) ∧
  (∀ s t : State, s.StatusInv → s.PendInv → step s = .next t → t.StatusInv ∧ t.PendInv)

/-- R404: while OUT_VALID = 1, BEST holds a complete committed matrix with the format bits of BEST_MASK. -/
def Obligations.StepKeepsOutputInvariant : Prop :=
  ∀ s t : State, s.MemInv → s.StatusInv → s.OutputInv → step s = .next t → t.OutputInv

/-- The invariants hold at State.reset and after every power-on draw. -/
def Obligations.ResetMeetsTheInvariants : Prop :=
  (State.reset.MemInv ∧ State.reset.StatusInv ∧ State.reset.PendInv ∧ State.reset.OutputInv) ∧
  ∀ draw : List Host.Cell, (State.powerOn draw).MemInv ∧ (State.powerOn draw).StatusInv ∧
    (State.powerOn draw).PendInv ∧ (State.powerOn draw).OutputInv

end
end

