-- ==== Sys2Proof/Laws/Memory.lean ====
section
/-! SUPPORT. The laws of memory: what a read gives after a write, ranges, and the canonical form that every operation keeps. -/

namespace Sys2Proof.Machine

@[simp] theorem Memory.read_nil (k : Nat) : Memory.read [] k = Memory.unlisted := rfl

theorem Memory.read_cons (a : Nat) (b : Byte) (m : Memory) (k : Nat) :
    Memory.read ((a, b) :: m) k = if a = k then b else Memory.read m k := rfl

/-- An address no entry names reads as unlisted. -/
theorem Memory.read_of_forall_ne {m : Memory} {k : Nat} (h : ∀ c ∈ m, c.1 ≠ k) : m.read k = Memory.unlisted := by
  induction m with
  | nil => rfl
  | cons c m ih =>
    rw [Memory.read_cons, if_neg (h c (by simp))]
    exact ih fun d hd => h d (by simp [hd])

/-- Restricting a memory to addresses that keep `k` does not change what `k` reads as. -/
theorem Memory.read_filter {p : Nat → Bool} {k : Nat} (hk : p k = true) (m : Memory) :
    Memory.read (m.filter fun c => p c.1) k = m.read k := by
  induction m with
  | nil => rfl
  | cons c m ih =>
    by_cases hc : p c.1 = true
    · rw [List.filter_cons_of_pos (by simpa using hc), Memory.read_cons, Memory.read_cons, ih]
    · have : c.1 ≠ k := fun h => hc (h ▸ hk)
      rw [List.filter_cons_of_neg (by simpa using hc), Memory.read_cons, if_neg this, ih]

/-- A memory restricted to addresses that leave `k` out reads `k` as unlisted. -/
theorem Memory.read_filter_out {p : Nat → Bool} {k : Nat} (hk : p k = false) (m : Memory) :
    Memory.read (m.filter fun c => p c.1) k = Memory.unlisted := by
  refine Memory.read_of_forall_ne fun c hc h => ?_
  simp [h, hk] at hc

/-- Of two memories in a row, the first that names an address decides. -/
theorem Memory.read_append_left {m n : Memory} {k : Nat} (h : ∀ c ∈ m, c.1 ≠ k) : Memory.read (m ++ n) k = n.read k := by
  induction m with
  | nil => rfl
  | cons c m ih =>
    rw [List.cons_append, Memory.read_cons, if_neg (h c (by simp))]
    exact ih fun d hd => h d (by simp [hd])

theorem Memory.read_append_right {m n : Memory} {k : Nat} (h : ∀ c ∈ n, c.1 ≠ k) : Memory.read (m ++ n) k = m.read k := by
  induction m with
  | nil => exact Memory.read_of_forall_ne h
  | cons c m ih => rw [List.cons_append, Memory.read_cons, Memory.read_cons, ih]

theorem Memory.listed_bounds {a : Nat} {bs : List Byte} {c : Host.Cell} (h : c ∈ Memory.listed a bs) :
    a ≤ c.1 ∧ c.1 < a + bs.length := by
  induction bs generalizing a with
  | nil => simp [Memory.listed] at h
  | cons b bs ih =>
    simp only [Memory.listed] at h
    split at h
    · have := ih h
      simp only [List.length_cons]
      omega
    · rcases List.mem_cons.1 h with rfl | h
      · simp
      · have := ih h
        simp only [List.length_cons]
        omega

theorem Memory.read_listed (a : Nat) (bs : List Byte) (k : Nat) :
    (Memory.listed a bs).read k = if a ≤ k ∧ k < a + bs.length then bs.getD (k - a) 0#8 else Memory.unlisted := by
  induction bs generalizing a with
  | nil => simp [Memory.listed]
  | cons b bs ih =>
    have hcons : (Memory.listed a (b :: bs)).read k = if a = k then b else (Memory.listed (a + 1) bs).read k := by
      simp only [Memory.listed]
      split
      · next hb =>
        by_cases hk : a = k
        · rw [if_pos hk, ih, if_neg (by omega), hb]
        · rw [if_neg hk]
      · exact Memory.read_cons _ _ _ _
    rw [hcons]
    by_cases hk : a = k
    · subst hk
      simp
    · rw [if_neg hk, ih]
      by_cases hr : a + 1 ≤ k ∧ k < a + 1 + bs.length
      · have hsub : k - a = (k - (a + 1)) + 1 := by omega
        rw [if_pos hr, if_pos (by simp only [List.length_cons]; omega), hsub, List.getD_cons_succ]
      · rw [if_neg hr, if_neg (by simp only [List.length_cons]; omega)]

/-- What any address reads as after a write. -/
theorem Memory.read_writeRange (m : Memory) (a : Nat) (bs : List Byte) (k : Nat) :
    (m.writeRange a bs).read k = if a ≤ k ∧ k < a + bs.length then bs.getD (k - a) 0#8 else m.read k := by
  unfold Memory.writeRange
  by_cases hlow : k < a
  · rw [if_neg (by omega), Memory.read_append_right]
    · exact Memory.read_filter (p := fun x => Nat.blt x a) (by simpa using hlow) m
    · intro c hc
      rcases List.mem_append.1 hc with h | h
      · have := Memory.listed_bounds h
        omega
      · have : a + bs.length ≤ c.1 := by simpa using (List.mem_filter.1 h).2
        omega
  · rw [Memory.read_append_left]
    · by_cases hin : k < a + bs.length
      · rw [if_pos ⟨by omega, hin⟩, Memory.read_append_right, Memory.read_listed, if_pos ⟨by omega, hin⟩]
        intro c hc
        have : a + bs.length ≤ c.1 := by simpa using (List.mem_filter.1 hc).2
        omega
      · rw [if_neg (by omega), Memory.read_append_left]
        · exact Memory.read_filter (p := fun x => Nat.ble (a + bs.length) x) (by simpa using hin) m
        · intro c hc
          have := Memory.listed_bounds hc
          omega
    · intro c hc
      have : c.1 < a := by simpa using (List.mem_filter.1 hc).2
      omega

/-- An address outside the written bytes reads as before. -/
theorem Memory.read_writeRange_outside {m : Memory} {a k : Nat} {bs : List Byte} (h : k < a ∨ a + bs.length ≤ k) :
    (m.writeRange a bs).read k = m.read k := by
  rw [Memory.read_writeRange, if_neg (by omega)]

/-- A written byte reads back. -/
theorem Memory.read_writeRange_inside {m : Memory} {a i : Nat} {bs : List Byte} (h : i < bs.length) :
    (m.writeRange a bs).read (a + i) = bs.getD i 0#8 := by
  rw [Memory.read_writeRange, if_pos (by omega), Nat.add_sub_cancel_left]

theorem Memory.readPow_eq (k : Nat) (m : Memory) (a : Nat) :
    Memory.readPow k m a = (List.range (2 ^ k)).map fun i => m.read (a + i) := by
  induction k generalizing m a with
  | zero => simp [Memory.readPow]
  | succ k ih =>
    have hp : 2 ^ (k + 1) = 2 ^ k + 2 ^ k := by omega
    rw [Memory.readPow, ih, ih, hp, List.range_add, List.map_append, List.map_map]
    congr 1
    · refine List.map_congr_left fun i hi => ?_
      exact Memory.read_filter (p := fun x => Nat.blt x (a + 2 ^ k)) (by simpa using List.mem_range.1 hi) m
    · refine List.map_congr_left fun i _ => ?_
      rw [Memory.read_filter (p := fun x => Nat.ble (a + 2 ^ k) x) (by simp) m, Function.comp, Nat.add_assoc]

/-- A range read is the reads of its addresses, in every memory. -/
theorem Memory.readRange_eq (m : Memory) (a n : Nat) :
    m.readRange a n = (List.range n).map fun i => m.read (a + i) := by
  have h : n ≤ 2 ^ (Nat.log2 n + 1) := Nat.le_of_lt Nat.lt_log2_self
  rw [Memory.readRange, Memory.readPow_eq, ← List.map_take, List.take_range, Nat.min_eq_left h]

@[simp] theorem Memory.length_readRange (m : Memory) (a n : Nat) : (m.readRange a n).length = n := by
  simp [Memory.readRange_eq]

/-- A range that was just written reads back. -/
theorem Memory.readRange_writeRange_same (m : Memory) (a : Nat) (bs : List Byte) :
    (m.writeRange a bs).readRange a bs.length = bs := by
  rw [Memory.readRange_eq]
  refine List.ext_getElem (by simp) fun i h _ => ?_
  have hi : i < bs.length := by simpa using h
  rw [List.getElem_map, List.getElem_range, Memory.read_writeRange_inside hi, List.getD_eq_getElem _ _ hi]

/-- A range apart from the written bytes reads as before. -/
theorem Memory.readRange_writeRange_apart {m : Memory} {a b n : Nat} {bs : List Byte}
    (h : b + n ≤ a ∨ a + bs.length ≤ b) : (m.writeRange a bs).readRange b n = m.readRange b n := by
  rw [Memory.readRange_eq, Memory.readRange_eq]
  refine List.map_congr_left fun i hi => ?_
  have := List.mem_range.1 hi
  exact Memory.read_writeRange_outside (by omega)

/-! ### The canonical form -/

theorem Memory.listed_wf (a : Nat) (bs : List Byte) : (Memory.listed a bs).wf := by
  induction bs generalizing a with
  | nil => simp [Memory.listed, Memory.wf]
  | cons b bs ih =>
    simp only [Memory.listed]
    split
    · exact ih (a + 1)
    · next hb =>
      refine ⟨List.pairwise_cons.2 ⟨fun c hc => ?_, (ih (a + 1)).1⟩, fun c hc => ?_⟩
      · have := Memory.listed_bounds hc
        show a < c.1
        omega
      · rcases List.mem_cons.1 hc with rfl | h
        · exact hb
        · exact (ih (a + 1)).2 c h

/-- A write keeps the canonical form. -/
theorem Memory.writeRange_wf {m : Memory} (h : m.wf) (a : Nat) (bs : List Byte) : (m.writeRange a bs).wf := by
  have hl := Memory.listed_wf a bs
  unfold Memory.writeRange
  refine ⟨List.pairwise_append.2 ⟨h.1.filter _, List.pairwise_append.2 ⟨hl.1, h.1.filter _, ?_⟩, ?_⟩, ?_⟩
  · intro c hc d hd
    have h1 := Memory.listed_bounds hc
    have h2 : a + bs.length ≤ d.1 := by simpa using (List.mem_filter.1 hd).2
    omega
  · intro c hc d hd
    have h1 : c.1 < a := by simpa using (List.mem_filter.1 hc).2
    rcases List.mem_append.1 hd with hd | hd
    · have := Memory.listed_bounds hd
      omega
    · have : a + bs.length ≤ d.1 := by simpa using (List.mem_filter.1 hd).2
      omega
  · intro c hc
    rcases List.mem_append.1 hc with hc | hc
    · exact h.2 c (List.mem_filter.1 hc).1
    · rcases List.mem_append.1 hc with hc | hc
      · exact hl.2 c hc
      · exact h.2 c (List.mem_filter.1 hc).1

/-- An entry after a write stood there before or carries one of the written bytes. -/
theorem Memory.mem_writeRange {m : Memory} {a : Nat} {bs : List Byte} {c : Host.Cell} (h : c ∈ m.writeRange a bs) :
    c ∈ m ∨ (c ∈ Memory.listed a bs) := by
  rcases List.mem_append.1 h with h | h
  · exact .inl (List.mem_filter.1 h).1
  · rcases List.mem_append.1 h with h | h
    · exact .inr h
    · exact .inl (List.mem_filter.1 h).1

theorem Memory.mem_listed {a : Nat} {bs : List Byte} {c : Host.Cell} (h : c ∈ Memory.listed a bs) : c.2 ∈ bs := by
  induction bs generalizing a with
  | nil => simp [Memory.listed] at h
  | cons b bs ih =>
    simp only [Memory.listed] at h
    split at h
    · exact List.mem_cons_of_mem _ (ih h)
    · rcases List.mem_cons.1 h with rfl | h
      · simp
      · exact List.mem_cons_of_mem _ (ih h)

theorem Memory.drawOne_wf {m : Memory} (h : m.wf) (c : Host.Cell) : (m.drawOne c).wf := by
  unfold Memory.drawOne
  split
  · exact Memory.writeRange_wf h _ _
  · exact h

/-- A draw of the buffers keeps the canonical form. -/
theorem Memory.drawn_wf {m : Memory} (h : m.wf) (draw : List Host.Cell) : (m.drawn draw).wf := by
  induction draw generalizing m with
  | nil => exact h
  | cons c draw ih => exact ih (Memory.drawOne_wf h c)

/-- Reset memory is canonical. -/
theorem State.reset_mem_wf : State.reset.mem.wf := by simp [State.reset, Memory.wf]

/-- The canonical form is one form: memories that read alike are equal data. -/
theorem Memory.wf_ext {m n : Memory} (hm : m.wf) (hn : n.wf) (h : ∀ k, m.read k = n.read k) : m = n := by
  induction m generalizing n with
  | nil =>
    cases n with
    | nil => rfl
    | cons d n =>
      have := h d.1
      rw [Memory.read_nil, Memory.read_cons, if_pos rfl] at this
      exact absurd this.symm (hn.2 d (by simp))
  | cons c m ih =>
    have hc : c.2 ≠ Memory.unlisted := hm.2 c (by simp)
    have hmw : Memory.wf m := ⟨(List.pairwise_cons.1 hm.1).2, fun x hx => hm.2 x (by simp [hx])⟩
    have hcm : ∀ x ∈ m, c.1 < x.1 := (List.pairwise_cons.1 hm.1).1
    cases n with
    | nil =>
      have := h c.1
      rw [Memory.read_nil, Memory.read_cons, if_pos rfl] at this
      exact absurd this hc
    | cons d n =>
      have hd : d.2 ≠ Memory.unlisted := hn.2 d (by simp)
      have hnw : Memory.wf n := ⟨(List.pairwise_cons.1 hn.1).2, fun x hx => hn.2 x (by simp [hx])⟩
      have hdn : ∀ x ∈ n, d.1 < x.1 := (List.pairwise_cons.1 hn.1).1
      have e1 : c.1 = d.1 := by
        rcases Nat.lt_trichotomy c.1 d.1 with hlt | heq | hgt
        · have := h c.1
          rw [Memory.read_cons, if_pos rfl, Memory.read_cons, if_neg (by omega),
            Memory.read_of_forall_ne fun x hx => by have := hdn x hx; omega] at this
          exact absurd this hc
        · exact heq
        · have := h d.1
          rw [Memory.read_cons, if_neg (by omega), Memory.read_cons, if_pos rfl,
            Memory.read_of_forall_ne fun x hx => by have := hcm x hx; omega] at this
          exact absurd this.symm hd
      have e2 : c.2 = d.2 := by
        have := h c.1
        rwa [Memory.read_cons, if_pos rfl, Memory.read_cons, if_pos e1.symm] at this
      have e3 : m = n := by
        refine ih hmw hnw fun k => ?_
        by_cases hk : c.1 = k
        · rw [Memory.read_of_forall_ne fun x hx => by have := hcm x hx; omega,
            Memory.read_of_forall_ne fun x hx => by have := hdn x hx; omega]
        · have := h k
          rwa [Memory.read_cons, if_neg hk, Memory.read_cons, if_neg (by omega)] at this
      rw [e3, Prod.ext e1 e2]

end Sys2Proof.Machine
end

