-- ==== Sys2Proof/Laws/State.lean ====
section
/-! SUPPORT. One lemma per field of State per update, true by rfl, so that no proof unfolds a record update. -/

namespace Sys2Proof.Machine

/-! ### launch -/

@[simp] theorem State.launch_ctrl (s : State) (w : Word) :
    (s.launch w).ctrl = s.ctrl := rfl
@[simp] theorem State.launch_status (s : State) (w : Word) :
    (s.launch w).status = s.status.launched := rfl
@[simp] theorem State.launch_lastCmd (s : State) (w : Word) :
    (s.launch w).lastCmd = w := rfl
@[simp] theorem State.launch_version (s : State) (w : Word) :
    (s.launch w).version = s.version := rfl
@[simp] theorem State.launch_level (s : State) (w : Word) :
    (s.launch w).level = s.level := rfl
@[simp] theorem State.launch_arg0 (s : State) (w : Word) :
    (s.launch w).arg0 = s.arg0 := rfl
@[simp] theorem State.launch_arg1 (s : State) (w : Word) :
    (s.launch w).arg1 = s.arg1 := rfl
@[simp] theorem State.launch_arg2 (s : State) (w : Word) :
    (s.launch w).arg2 = s.arg2 := rfl
@[simp] theorem State.launch_cwBits (s : State) (w : Word) :
    (s.launch w).cwBits = s.cwBits := rfl
@[simp] theorem State.launch_res (s : State) (w : Word) :
    (s.launch w).res = s.res := rfl
@[simp] theorem State.launch_bestMask (s : State) (w : Word) :
    (s.launch w).bestMask = s.bestMask := rfl
@[simp] theorem State.launch_pen (s : State) (w : Word) :
    (s.launch w).pen = s.pen := rfl
@[simp] theorem State.launch_penM (s : State) (w : Word) :
    (s.launch w).penM = s.penM := rfl
@[simp] theorem State.launch_pend (s : State) (w : Word) :
    (s.launch w).pend = some { word := w, version := s.version, level := s.level, arg0 := s.arg0, arg1 := s.arg1, arg2 := s.arg2, cwBits := s.cwBits } := rfl
@[simp] theorem State.launch_mem (s : State) (w : Word) :
    (s.launch w).mem = s.mem := rfl
@[simp] theorem State.launch_script (s : State) (w : Word) :
    (s.launch w).script = s.script := rfl
@[simp] theorem State.launch_hostLog (s : State) (w : Word) :
    (s.launch w).hostLog = s.hostLog := rfl

/-! ### completeOk -/

@[simp] theorem State.completeOk_ctrl (s : State) :
    (s.completeOk).ctrl = s.ctrl := rfl
@[simp] theorem State.completeOk_status (s : State) :
    (s.completeOk).status = s.status.completed := rfl
@[simp] theorem State.completeOk_lastCmd (s : State) :
    (s.completeOk).lastCmd = s.lastCmd := rfl
@[simp] theorem State.completeOk_version (s : State) :
    (s.completeOk).version = s.version := rfl
@[simp] theorem State.completeOk_level (s : State) :
    (s.completeOk).level = s.level := rfl
@[simp] theorem State.completeOk_arg0 (s : State) :
    (s.completeOk).arg0 = s.arg0 := rfl
@[simp] theorem State.completeOk_arg1 (s : State) :
    (s.completeOk).arg1 = s.arg1 := rfl
@[simp] theorem State.completeOk_arg2 (s : State) :
    (s.completeOk).arg2 = s.arg2 := rfl
@[simp] theorem State.completeOk_cwBits (s : State) :
    (s.completeOk).cwBits = s.cwBits := rfl
@[simp] theorem State.completeOk_res (s : State) :
    (s.completeOk).res = s.res := rfl
@[simp] theorem State.completeOk_bestMask (s : State) :
    (s.completeOk).bestMask = s.bestMask := rfl
@[simp] theorem State.completeOk_pen (s : State) :
    (s.completeOk).pen = s.pen := rfl
@[simp] theorem State.completeOk_penM (s : State) :
    (s.completeOk).penM = s.penM := rfl
@[simp] theorem State.completeOk_pend (s : State) :
    (s.completeOk).pend = none := rfl
@[simp] theorem State.completeOk_mem (s : State) :
    (s.completeOk).mem = s.mem := rfl
@[simp] theorem State.completeOk_script (s : State) :
    (s.completeOk).script = s.script := rfl
@[simp] theorem State.completeOk_hostLog (s : State) :
    (s.completeOk).hostLog = s.hostLog := rfl

/-! ### completeErr -/

@[simp] theorem State.completeErr_ctrl (s : State) (e : ErrorCode) :
    (s.completeErr e).ctrl = s.ctrl := rfl
@[simp] theorem State.completeErr_status (s : State) (e : ErrorCode) :
    (s.completeErr e).status = s.status.failed e := rfl
@[simp] theorem State.completeErr_lastCmd (s : State) (e : ErrorCode) :
    (s.completeErr e).lastCmd = s.lastCmd := rfl
@[simp] theorem State.completeErr_version (s : State) (e : ErrorCode) :
    (s.completeErr e).version = s.version := rfl
@[simp] theorem State.completeErr_level (s : State) (e : ErrorCode) :
    (s.completeErr e).level = s.level := rfl
@[simp] theorem State.completeErr_arg0 (s : State) (e : ErrorCode) :
    (s.completeErr e).arg0 = s.arg0 := rfl
@[simp] theorem State.completeErr_arg1 (s : State) (e : ErrorCode) :
    (s.completeErr e).arg1 = s.arg1 := rfl
@[simp] theorem State.completeErr_arg2 (s : State) (e : ErrorCode) :
    (s.completeErr e).arg2 = s.arg2 := rfl
@[simp] theorem State.completeErr_cwBits (s : State) (e : ErrorCode) :
    (s.completeErr e).cwBits = s.cwBits := rfl
@[simp] theorem State.completeErr_res (s : State) (e : ErrorCode) :
    (s.completeErr e).res = s.res := rfl
@[simp] theorem State.completeErr_bestMask (s : State) (e : ErrorCode) :
    (s.completeErr e).bestMask = s.bestMask := rfl
@[simp] theorem State.completeErr_pen (s : State) (e : ErrorCode) :
    (s.completeErr e).pen = s.pen := rfl
@[simp] theorem State.completeErr_penM (s : State) (e : ErrorCode) :
    (s.completeErr e).penM = s.penM := rfl
@[simp] theorem State.completeErr_pend (s : State) (e : ErrorCode) :
    (s.completeErr e).pend = none := rfl
@[simp] theorem State.completeErr_mem (s : State) (e : ErrorCode) :
    (s.completeErr e).mem = s.mem := rfl
@[simp] theorem State.completeErr_script (s : State) (e : ErrorCode) :
    (s.completeErr e).script = s.script := rfl
@[simp] theorem State.completeErr_hostLog (s : State) (e : ErrorCode) :
    (s.completeErr e).hostLog = s.hostLog := rfl

/-! ### setResults -/

@[simp] theorem State.setResults_ctrl (s : State) (a b c d : Word) :
    (s.setResults a b c d).ctrl = s.ctrl := rfl
@[simp] theorem State.setResults_status (s : State) (a b c d : Word) :
    (s.setResults a b c d).status = s.status := rfl
@[simp] theorem State.setResults_lastCmd (s : State) (a b c d : Word) :
    (s.setResults a b c d).lastCmd = s.lastCmd := rfl
@[simp] theorem State.setResults_version (s : State) (a b c d : Word) :
    (s.setResults a b c d).version = s.version := rfl
@[simp] theorem State.setResults_level (s : State) (a b c d : Word) :
    (s.setResults a b c d).level = s.level := rfl
@[simp] theorem State.setResults_arg0 (s : State) (a b c d : Word) :
    (s.setResults a b c d).arg0 = s.arg0 := rfl
@[simp] theorem State.setResults_arg1 (s : State) (a b c d : Word) :
    (s.setResults a b c d).arg1 = s.arg1 := rfl
@[simp] theorem State.setResults_arg2 (s : State) (a b c d : Word) :
    (s.setResults a b c d).arg2 = s.arg2 := rfl
@[simp] theorem State.setResults_cwBits (s : State) (a b c d : Word) :
    (s.setResults a b c d).cwBits = s.cwBits := rfl
@[simp] theorem State.setResults_res (s : State) (a b c d : Word) :
    (s.setResults a b c d).res = ⟨a, b, c, d⟩ := rfl
@[simp] theorem State.setResults_bestMask (s : State) (a b c d : Word) :
    (s.setResults a b c d).bestMask = s.bestMask := rfl
@[simp] theorem State.setResults_pen (s : State) (a b c d : Word) :
    (s.setResults a b c d).pen = s.pen := rfl
@[simp] theorem State.setResults_penM (s : State) (a b c d : Word) :
    (s.setResults a b c d).penM = s.penM := rfl
@[simp] theorem State.setResults_pend (s : State) (a b c d : Word) :
    (s.setResults a b c d).pend = s.pend := rfl
@[simp] theorem State.setResults_mem (s : State) (a b c d : Word) :
    (s.setResults a b c d).mem = s.mem := rfl
@[simp] theorem State.setResults_script (s : State) (a b c d : Word) :
    (s.setResults a b c d).script = s.script := rfl
@[simp] theorem State.setResults_hostLog (s : State) (a b c d : Word) :
    (s.setResults a b c d).hostLog = s.hostLog := rfl

/-! ### setCwBits -/

@[simp] theorem State.setCwBits_ctrl (s : State) (n : Nat) :
    (s.setCwBits n).ctrl = s.ctrl := rfl
@[simp] theorem State.setCwBits_status (s : State) (n : Nat) :
    (s.setCwBits n).status = s.status := rfl
@[simp] theorem State.setCwBits_lastCmd (s : State) (n : Nat) :
    (s.setCwBits n).lastCmd = s.lastCmd := rfl
@[simp] theorem State.setCwBits_version (s : State) (n : Nat) :
    (s.setCwBits n).version = s.version := rfl
@[simp] theorem State.setCwBits_level (s : State) (n : Nat) :
    (s.setCwBits n).level = s.level := rfl
@[simp] theorem State.setCwBits_arg0 (s : State) (n : Nat) :
    (s.setCwBits n).arg0 = s.arg0 := rfl
@[simp] theorem State.setCwBits_arg1 (s : State) (n : Nat) :
    (s.setCwBits n).arg1 = s.arg1 := rfl
@[simp] theorem State.setCwBits_arg2 (s : State) (n : Nat) :
    (s.setCwBits n).arg2 = s.arg2 := rfl
@[simp] theorem State.setCwBits_cwBits (s : State) (n : Nat) :
    (s.setCwBits n).cwBits = BitVec.ofNat 16 n := rfl
@[simp] theorem State.setCwBits_res (s : State) (n : Nat) :
    (s.setCwBits n).res = s.res := rfl
@[simp] theorem State.setCwBits_bestMask (s : State) (n : Nat) :
    (s.setCwBits n).bestMask = s.bestMask := rfl
@[simp] theorem State.setCwBits_pen (s : State) (n : Nat) :
    (s.setCwBits n).pen = s.pen := rfl
@[simp] theorem State.setCwBits_penM (s : State) (n : Nat) :
    (s.setCwBits n).penM = s.penM := rfl
@[simp] theorem State.setCwBits_pend (s : State) (n : Nat) :
    (s.setCwBits n).pend = s.pend := rfl
@[simp] theorem State.setCwBits_mem (s : State) (n : Nat) :
    (s.setCwBits n).mem = s.mem := rfl
@[simp] theorem State.setCwBits_script (s : State) (n : Nat) :
    (s.setCwBits n).script = s.script := rfl
@[simp] theorem State.setCwBits_hostLog (s : State) (n : Nat) :
    (s.setCwBits n).hostLog = s.hostLog := rfl

/-! ### setOutValid -/

@[simp] theorem State.setOutValid_ctrl (s : State) (b : Bool) :
    (s.setOutValid b).ctrl = s.ctrl := rfl
@[simp] theorem State.setOutValid_status (s : State) (b : Bool) :
    (s.setOutValid b).status = { s.status with outValid := b } := rfl
@[simp] theorem State.setOutValid_lastCmd (s : State) (b : Bool) :
    (s.setOutValid b).lastCmd = s.lastCmd := rfl
@[simp] theorem State.setOutValid_version (s : State) (b : Bool) :
    (s.setOutValid b).version = s.version := rfl
@[simp] theorem State.setOutValid_level (s : State) (b : Bool) :
    (s.setOutValid b).level = s.level := rfl
@[simp] theorem State.setOutValid_arg0 (s : State) (b : Bool) :
    (s.setOutValid b).arg0 = s.arg0 := rfl
@[simp] theorem State.setOutValid_arg1 (s : State) (b : Bool) :
    (s.setOutValid b).arg1 = s.arg1 := rfl
@[simp] theorem State.setOutValid_arg2 (s : State) (b : Bool) :
    (s.setOutValid b).arg2 = s.arg2 := rfl
@[simp] theorem State.setOutValid_cwBits (s : State) (b : Bool) :
    (s.setOutValid b).cwBits = s.cwBits := rfl
@[simp] theorem State.setOutValid_res (s : State) (b : Bool) :
    (s.setOutValid b).res = s.res := rfl
@[simp] theorem State.setOutValid_bestMask (s : State) (b : Bool) :
    (s.setOutValid b).bestMask = s.bestMask := rfl
@[simp] theorem State.setOutValid_pen (s : State) (b : Bool) :
    (s.setOutValid b).pen = s.pen := rfl
@[simp] theorem State.setOutValid_penM (s : State) (b : Bool) :
    (s.setOutValid b).penM = s.penM := rfl
@[simp] theorem State.setOutValid_pend (s : State) (b : Bool) :
    (s.setOutValid b).pend = s.pend := rfl
@[simp] theorem State.setOutValid_mem (s : State) (b : Bool) :
    (s.setOutValid b).mem = s.mem := rfl
@[simp] theorem State.setOutValid_script (s : State) (b : Bool) :
    (s.setOutValid b).script = s.script := rfl
@[simp] theorem State.setOutValid_hostLog (s : State) (b : Bool) :
    (s.setOutValid b).hostLog = s.hostLog := rfl

/-! ### writeBuf -/

@[simp] theorem State.writeBuf_ctrl (s : State) (b : Buf) (off : Nat) (bs : List Byte) :
    (s.writeBuf b off bs).ctrl = s.ctrl := rfl
@[simp] theorem State.writeBuf_status (s : State) (b : Buf) (off : Nat) (bs : List Byte) :
    (s.writeBuf b off bs).status = s.status := rfl
@[simp] theorem State.writeBuf_lastCmd (s : State) (b : Buf) (off : Nat) (bs : List Byte) :
    (s.writeBuf b off bs).lastCmd = s.lastCmd := rfl
@[simp] theorem State.writeBuf_version (s : State) (b : Buf) (off : Nat) (bs : List Byte) :
    (s.writeBuf b off bs).version = s.version := rfl
@[simp] theorem State.writeBuf_level (s : State) (b : Buf) (off : Nat) (bs : List Byte) :
    (s.writeBuf b off bs).level = s.level := rfl
@[simp] theorem State.writeBuf_arg0 (s : State) (b : Buf) (off : Nat) (bs : List Byte) :
    (s.writeBuf b off bs).arg0 = s.arg0 := rfl
@[simp] theorem State.writeBuf_arg1 (s : State) (b : Buf) (off : Nat) (bs : List Byte) :
    (s.writeBuf b off bs).arg1 = s.arg1 := rfl
@[simp] theorem State.writeBuf_arg2 (s : State) (b : Buf) (off : Nat) (bs : List Byte) :
    (s.writeBuf b off bs).arg2 = s.arg2 := rfl
@[simp] theorem State.writeBuf_cwBits (s : State) (b : Buf) (off : Nat) (bs : List Byte) :
    (s.writeBuf b off bs).cwBits = s.cwBits := rfl
@[simp] theorem State.writeBuf_res (s : State) (b : Buf) (off : Nat) (bs : List Byte) :
    (s.writeBuf b off bs).res = s.res := rfl
@[simp] theorem State.writeBuf_bestMask (s : State) (b : Buf) (off : Nat) (bs : List Byte) :
    (s.writeBuf b off bs).bestMask = s.bestMask := rfl
@[simp] theorem State.writeBuf_pen (s : State) (b : Buf) (off : Nat) (bs : List Byte) :
    (s.writeBuf b off bs).pen = s.pen := rfl
@[simp] theorem State.writeBuf_penM (s : State) (b : Buf) (off : Nat) (bs : List Byte) :
    (s.writeBuf b off bs).penM = s.penM := rfl
@[simp] theorem State.writeBuf_pend (s : State) (b : Buf) (off : Nat) (bs : List Byte) :
    (s.writeBuf b off bs).pend = s.pend := rfl
@[simp] theorem State.writeBuf_mem (s : State) (b : Buf) (off : Nat) (bs : List Byte) :
    (s.writeBuf b off bs).mem = s.mem.writeRange (b.base + off) bs := rfl
@[simp] theorem State.writeBuf_script (s : State) (b : Buf) (off : Nat) (bs : List Byte) :
    (s.writeBuf b off bs).script = s.script := rfl
@[simp] theorem State.writeBuf_hostLog (s : State) (b : Buf) (off : Nat) (bs : List Byte) :
    (s.writeBuf b off bs).hostLog = s.hostLog := rfl

/-! ### writeGrid -/

@[simp] theorem State.writeGrid_ctrl (s : State) (b : Buf) (g : Grid) :
    (s.writeGrid b g).ctrl = s.ctrl := rfl
@[simp] theorem State.writeGrid_status (s : State) (b : Buf) (g : Grid) :
    (s.writeGrid b g).status = s.status := rfl
@[simp] theorem State.writeGrid_lastCmd (s : State) (b : Buf) (g : Grid) :
    (s.writeGrid b g).lastCmd = s.lastCmd := rfl
@[simp] theorem State.writeGrid_version (s : State) (b : Buf) (g : Grid) :
    (s.writeGrid b g).version = s.version := rfl
@[simp] theorem State.writeGrid_level (s : State) (b : Buf) (g : Grid) :
    (s.writeGrid b g).level = s.level := rfl
@[simp] theorem State.writeGrid_arg0 (s : State) (b : Buf) (g : Grid) :
    (s.writeGrid b g).arg0 = s.arg0 := rfl
@[simp] theorem State.writeGrid_arg1 (s : State) (b : Buf) (g : Grid) :
    (s.writeGrid b g).arg1 = s.arg1 := rfl
@[simp] theorem State.writeGrid_arg2 (s : State) (b : Buf) (g : Grid) :
    (s.writeGrid b g).arg2 = s.arg2 := rfl
@[simp] theorem State.writeGrid_cwBits (s : State) (b : Buf) (g : Grid) :
    (s.writeGrid b g).cwBits = s.cwBits := rfl
@[simp] theorem State.writeGrid_res (s : State) (b : Buf) (g : Grid) :
    (s.writeGrid b g).res = s.res := rfl
@[simp] theorem State.writeGrid_bestMask (s : State) (b : Buf) (g : Grid) :
    (s.writeGrid b g).bestMask = s.bestMask := rfl
@[simp] theorem State.writeGrid_pen (s : State) (b : Buf) (g : Grid) :
    (s.writeGrid b g).pen = s.pen := rfl
@[simp] theorem State.writeGrid_penM (s : State) (b : Buf) (g : Grid) :
    (s.writeGrid b g).penM = s.penM := rfl
@[simp] theorem State.writeGrid_pend (s : State) (b : Buf) (g : Grid) :
    (s.writeGrid b g).pend = s.pend := rfl
@[simp] theorem State.writeGrid_mem (s : State) (b : Buf) (g : Grid) :
    (s.writeGrid b g).mem = s.mem.writeRange (b.base + 0) g.toBytes := rfl
@[simp] theorem State.writeGrid_script (s : State) (b : Buf) (g : Grid) :
    (s.writeGrid b g).script = s.script := rfl
@[simp] theorem State.writeGrid_hostLog (s : State) (b : Buf) (g : Grid) :
    (s.writeGrid b g).hostLog = s.hostLog := rfl

/-! ### setPenalties -/

@[simp] theorem State.setPenalties_ctrl (s : State) (p : Score) :
    (s.setPenalties p).ctrl = s.ctrl := rfl
@[simp] theorem State.setPenalties_status (s : State) (p : Score) :
    (s.setPenalties p).status = s.status := rfl
@[simp] theorem State.setPenalties_lastCmd (s : State) (p : Score) :
    (s.setPenalties p).lastCmd = s.lastCmd := rfl
@[simp] theorem State.setPenalties_version (s : State) (p : Score) :
    (s.setPenalties p).version = s.version := rfl
@[simp] theorem State.setPenalties_level (s : State) (p : Score) :
    (s.setPenalties p).level = s.level := rfl
@[simp] theorem State.setPenalties_arg0 (s : State) (p : Score) :
    (s.setPenalties p).arg0 = s.arg0 := rfl
@[simp] theorem State.setPenalties_arg1 (s : State) (p : Score) :
    (s.setPenalties p).arg1 = s.arg1 := rfl
@[simp] theorem State.setPenalties_arg2 (s : State) (p : Score) :
    (s.setPenalties p).arg2 = s.arg2 := rfl
@[simp] theorem State.setPenalties_cwBits (s : State) (p : Score) :
    (s.setPenalties p).cwBits = s.cwBits := rfl
@[simp] theorem State.setPenalties_res (s : State) (p : Score) :
    (s.setPenalties p).res = s.res := rfl
@[simp] theorem State.setPenalties_bestMask (s : State) (p : Score) :
    (s.setPenalties p).bestMask = s.bestMask := rfl
@[simp] theorem State.setPenalties_pen (s : State) (p : Score) :
    (s.setPenalties p).pen = { total := BitVec.ofNat 32 p.total, n1 := BitVec.ofNat 32 p.n1, n2 := BitVec.ofNat 32 p.n2, n3 := BitVec.ofNat 32 p.n3, n4 := BitVec.ofNat 32 p.n4 } := rfl
@[simp] theorem State.setPenalties_penM (s : State) (p : Score) :
    (s.setPenalties p).penM = s.penM := rfl
@[simp] theorem State.setPenalties_pend (s : State) (p : Score) :
    (s.setPenalties p).pend = s.pend := rfl
@[simp] theorem State.setPenalties_mem (s : State) (p : Score) :
    (s.setPenalties p).mem = s.mem := rfl
@[simp] theorem State.setPenalties_script (s : State) (p : Score) :
    (s.setPenalties p).script = s.script := rfl
@[simp] theorem State.setPenalties_hostLog (s : State) (p : Score) :
    (s.setPenalties p).hostLog = s.hostLog := rfl

/-! ### setMaskTotals -/

@[simp] theorem State.setMaskTotals_ctrl (s : State) (t : Nat → Nat) :
    (s.setMaskTotals t).ctrl = s.ctrl := rfl
@[simp] theorem State.setMaskTotals_status (s : State) (t : Nat → Nat) :
    (s.setMaskTotals t).status = s.status := rfl
@[simp] theorem State.setMaskTotals_lastCmd (s : State) (t : Nat → Nat) :
    (s.setMaskTotals t).lastCmd = s.lastCmd := rfl
@[simp] theorem State.setMaskTotals_version (s : State) (t : Nat → Nat) :
    (s.setMaskTotals t).version = s.version := rfl
@[simp] theorem State.setMaskTotals_level (s : State) (t : Nat → Nat) :
    (s.setMaskTotals t).level = s.level := rfl
@[simp] theorem State.setMaskTotals_arg0 (s : State) (t : Nat → Nat) :
    (s.setMaskTotals t).arg0 = s.arg0 := rfl
@[simp] theorem State.setMaskTotals_arg1 (s : State) (t : Nat → Nat) :
    (s.setMaskTotals t).arg1 = s.arg1 := rfl
@[simp] theorem State.setMaskTotals_arg2 (s : State) (t : Nat → Nat) :
    (s.setMaskTotals t).arg2 = s.arg2 := rfl
@[simp] theorem State.setMaskTotals_cwBits (s : State) (t : Nat → Nat) :
    (s.setMaskTotals t).cwBits = s.cwBits := rfl
@[simp] theorem State.setMaskTotals_res (s : State) (t : Nat → Nat) :
    (s.setMaskTotals t).res = s.res := rfl
@[simp] theorem State.setMaskTotals_bestMask (s : State) (t : Nat → Nat) :
    (s.setMaskTotals t).bestMask = s.bestMask := rfl
@[simp] theorem State.setMaskTotals_pen (s : State) (t : Nat → Nat) :
    (s.setMaskTotals t).pen = s.pen := rfl
@[simp] theorem State.setMaskTotals_penM (s : State) (t : Nat → Nat) :
    (s.setMaskTotals t).penM = ⟨BitVec.ofNat 32 (t 0), BitVec.ofNat 32 (t 1), BitVec.ofNat 32 (t 2), BitVec.ofNat 32 (t 3), BitVec.ofNat 32 (t 4), BitVec.ofNat 32 (t 5), BitVec.ofNat 32 (t 6), BitVec.ofNat 32 (t 7)⟩ := rfl
@[simp] theorem State.setMaskTotals_pend (s : State) (t : Nat → Nat) :
    (s.setMaskTotals t).pend = s.pend := rfl
@[simp] theorem State.setMaskTotals_mem (s : State) (t : Nat → Nat) :
    (s.setMaskTotals t).mem = s.mem := rfl
@[simp] theorem State.setMaskTotals_script (s : State) (t : Nat → Nat) :
    (s.setMaskTotals t).script = s.script := rfl
@[simp] theorem State.setMaskTotals_hostLog (s : State) (t : Nat → Nat) :
    (s.setMaskTotals t).hostLog = s.hostLog := rfl

/-! ### commit -/

@[simp] theorem State.commit_ctrl (s : State) (h : Grid) (x : Scored) :
    (s.commit h x).ctrl = s.ctrl := rfl
@[simp] theorem State.commit_status (s : State) (h : Grid) (x : Scored) :
    (s.commit h x).status = { s.status with outValid := true } := rfl
@[simp] theorem State.commit_lastCmd (s : State) (h : Grid) (x : Scored) :
    (s.commit h x).lastCmd = s.lastCmd := rfl
@[simp] theorem State.commit_version (s : State) (h : Grid) (x : Scored) :
    (s.commit h x).version = s.version := rfl
@[simp] theorem State.commit_level (s : State) (h : Grid) (x : Scored) :
    (s.commit h x).level = s.level := rfl
@[simp] theorem State.commit_arg0 (s : State) (h : Grid) (x : Scored) :
    (s.commit h x).arg0 = s.arg0 := rfl
@[simp] theorem State.commit_arg1 (s : State) (h : Grid) (x : Scored) :
    (s.commit h x).arg1 = s.arg1 := rfl
@[simp] theorem State.commit_arg2 (s : State) (h : Grid) (x : Scored) :
    (s.commit h x).arg2 = s.arg2 := rfl
@[simp] theorem State.commit_cwBits (s : State) (h : Grid) (x : Scored) :
    (s.commit h x).cwBits = s.cwBits := rfl
@[simp] theorem State.commit_res (s : State) (h : Grid) (x : Scored) :
    (s.commit h x).res = s.res := rfl
@[simp] theorem State.commit_bestMask (s : State) (h : Grid) (x : Scored) :
    (s.commit h x).bestMask = BitVec.ofNat 3 x.mask := rfl
@[simp] theorem State.commit_pen (s : State) (h : Grid) (x : Scored) :
    (s.commit h x).pen = (s.setPenalties x.score).pen := rfl
@[simp] theorem State.commit_penM (s : State) (h : Grid) (x : Scored) :
    (s.commit h x).penM = s.penM := rfl
@[simp] theorem State.commit_pend (s : State) (h : Grid) (x : Scored) :
    (s.commit h x).pend = s.pend := rfl
@[simp] theorem State.commit_mem (s : State) (h : Grid) (x : Scored) :
    (s.commit h x).mem = s.mem.writeRange (Buf.best.base + 0) h.toBytes := rfl
@[simp] theorem State.commit_script (s : State) (h : Grid) (x : Scored) :
    (s.commit h x).script = s.script := rfl
@[simp] theorem State.commit_hostLog (s : State) (h : Grid) (x : Scored) :
    (s.commit h x).hostLog = s.hostLog := rfl

/-! ### lock -/

@[simp] theorem State.lock_ctrl (s : State) :
    (s.lock).ctrl = s.ctrl := rfl
@[simp] theorem State.lock_status (s : State) :
    (s.lock).status = { s.status with locked := true } := rfl
@[simp] theorem State.lock_lastCmd (s : State) :
    (s.lock).lastCmd = s.lastCmd := rfl
@[simp] theorem State.lock_version (s : State) :
    (s.lock).version = s.version := rfl
@[simp] theorem State.lock_level (s : State) :
    (s.lock).level = s.level := rfl
@[simp] theorem State.lock_arg0 (s : State) :
    (s.lock).arg0 = s.arg0 := rfl
@[simp] theorem State.lock_arg1 (s : State) :
    (s.lock).arg1 = s.arg1 := rfl
@[simp] theorem State.lock_arg2 (s : State) :
    (s.lock).arg2 = s.arg2 := rfl
@[simp] theorem State.lock_cwBits (s : State) :
    (s.lock).cwBits = s.cwBits := rfl
@[simp] theorem State.lock_res (s : State) :
    (s.lock).res = s.res := rfl
@[simp] theorem State.lock_bestMask (s : State) :
    (s.lock).bestMask = s.bestMask := rfl
@[simp] theorem State.lock_pen (s : State) :
    (s.lock).pen = s.pen := rfl
@[simp] theorem State.lock_penM (s : State) :
    (s.lock).penM = s.penM := rfl
@[simp] theorem State.lock_pend (s : State) :
    (s.lock).pend = s.pend := rfl
@[simp] theorem State.lock_mem (s : State) :
    (s.lock).mem = s.mem := rfl
@[simp] theorem State.lock_script (s : State) :
    (s.lock).script = s.script := rfl
@[simp] theorem State.lock_hostLog (s : State) :
    (s.lock).hostLog = s.hostLog := rfl

/-! ### softReset -/

@[simp] theorem State.softReset_ctrl (s : State) :
    (s.softReset).ctrl = State.reset.ctrl := rfl
@[simp] theorem State.softReset_status (s : State) :
    (s.softReset).status = State.reset.status := rfl
@[simp] theorem State.softReset_lastCmd (s : State) :
    (s.softReset).lastCmd = State.reset.lastCmd := rfl
@[simp] theorem State.softReset_version (s : State) :
    (s.softReset).version = State.reset.version := rfl
@[simp] theorem State.softReset_level (s : State) :
    (s.softReset).level = State.reset.level := rfl
@[simp] theorem State.softReset_arg0 (s : State) :
    (s.softReset).arg0 = State.reset.arg0 := rfl
@[simp] theorem State.softReset_arg1 (s : State) :
    (s.softReset).arg1 = State.reset.arg1 := rfl
@[simp] theorem State.softReset_arg2 (s : State) :
    (s.softReset).arg2 = State.reset.arg2 := rfl
@[simp] theorem State.softReset_cwBits (s : State) :
    (s.softReset).cwBits = State.reset.cwBits := rfl
@[simp] theorem State.softReset_res (s : State) :
    (s.softReset).res = State.reset.res := rfl
@[simp] theorem State.softReset_bestMask (s : State) :
    (s.softReset).bestMask = State.reset.bestMask := rfl
@[simp] theorem State.softReset_pen (s : State) :
    (s.softReset).pen = State.reset.pen := rfl
@[simp] theorem State.softReset_penM (s : State) :
    (s.softReset).penM = State.reset.penM := rfl
@[simp] theorem State.softReset_pend (s : State) :
    (s.softReset).pend = State.reset.pend := rfl
@[simp] theorem State.softReset_mem (s : State) :
    (s.softReset).mem = s.mem := rfl
@[simp] theorem State.softReset_script (s : State) :
    (s.softReset).script = s.script := rfl
@[simp] theorem State.softReset_hostLog (s : State) :
    (s.softReset).hostLog = s.hostLog := rfl

/-! ### hardReset -/

@[simp] theorem State.hardReset_ctrl (s : State) (draw : List Host.Cell) :
    (s.hardReset draw).ctrl = State.reset.ctrl := rfl
@[simp] theorem State.hardReset_status (s : State) (draw : List Host.Cell) :
    (s.hardReset draw).status = State.reset.status := rfl
@[simp] theorem State.hardReset_lastCmd (s : State) (draw : List Host.Cell) :
    (s.hardReset draw).lastCmd = State.reset.lastCmd := rfl
@[simp] theorem State.hardReset_version (s : State) (draw : List Host.Cell) :
    (s.hardReset draw).version = State.reset.version := rfl
@[simp] theorem State.hardReset_level (s : State) (draw : List Host.Cell) :
    (s.hardReset draw).level = State.reset.level := rfl
@[simp] theorem State.hardReset_arg0 (s : State) (draw : List Host.Cell) :
    (s.hardReset draw).arg0 = State.reset.arg0 := rfl
@[simp] theorem State.hardReset_arg1 (s : State) (draw : List Host.Cell) :
    (s.hardReset draw).arg1 = State.reset.arg1 := rfl
@[simp] theorem State.hardReset_arg2 (s : State) (draw : List Host.Cell) :
    (s.hardReset draw).arg2 = State.reset.arg2 := rfl
@[simp] theorem State.hardReset_cwBits (s : State) (draw : List Host.Cell) :
    (s.hardReset draw).cwBits = State.reset.cwBits := rfl
@[simp] theorem State.hardReset_res (s : State) (draw : List Host.Cell) :
    (s.hardReset draw).res = State.reset.res := rfl
@[simp] theorem State.hardReset_bestMask (s : State) (draw : List Host.Cell) :
    (s.hardReset draw).bestMask = State.reset.bestMask := rfl
@[simp] theorem State.hardReset_pen (s : State) (draw : List Host.Cell) :
    (s.hardReset draw).pen = State.reset.pen := rfl
@[simp] theorem State.hardReset_penM (s : State) (draw : List Host.Cell) :
    (s.hardReset draw).penM = State.reset.penM := rfl
@[simp] theorem State.hardReset_pend (s : State) (draw : List Host.Cell) :
    (s.hardReset draw).pend = State.reset.pend := rfl
@[simp] theorem State.hardReset_mem (s : State) (draw : List Host.Cell) :
    (s.hardReset draw).mem = s.mem.drawn draw := rfl
@[simp] theorem State.hardReset_script (s : State) (draw : List Host.Cell) :
    (s.hardReset draw).script = s.script := rfl
@[simp] theorem State.hardReset_hostLog (s : State) (draw : List Host.Cell) :
    (s.hardReset draw).hostLog = s.hostLog := rfl

/-! ### Status -/

@[simp] theorem Status.launched_done (t : Status) :
    (t.launched).done = false := rfl
@[simp] theorem Status.launched_err (t : Status) :
    (t.launched).err = false := rfl
@[simp] theorem Status.launched_overrun (t : Status) :
    (t.launched).overrun = t.overrun := rfl
@[simp] theorem Status.launched_locked (t : Status) :
    (t.launched).locked = t.locked := rfl
@[simp] theorem Status.launched_outValid (t : Status) :
    (t.launched).outValid = t.outValid := rfl
@[simp] theorem Status.launched_errCode (t : Status) :
    (t.launched).errCode = 0#8 := rfl
@[simp] theorem Status.completed_done (t : Status) :
    (t.completed).done = true := rfl
@[simp] theorem Status.completed_err (t : Status) :
    (t.completed).err = t.err := rfl
@[simp] theorem Status.completed_overrun (t : Status) :
    (t.completed).overrun = t.overrun := rfl
@[simp] theorem Status.completed_locked (t : Status) :
    (t.completed).locked = t.locked := rfl
@[simp] theorem Status.completed_outValid (t : Status) :
    (t.completed).outValid = t.outValid := rfl
@[simp] theorem Status.completed_errCode (t : Status) :
    (t.completed).errCode = t.errCode := rfl
@[simp] theorem Status.failed_done (t : Status) (e : ErrorCode) :
    (t.failed e).done = t.done := rfl
@[simp] theorem Status.failed_err (t : Status) (e : ErrorCode) :
    (t.failed e).err = true := rfl
@[simp] theorem Status.failed_overrun (t : Status) (e : ErrorCode) :
    (t.failed e).overrun = t.overrun := rfl
@[simp] theorem Status.failed_locked (t : Status) (e : ErrorCode) :
    (t.failed e).locked = t.locked := rfl
@[simp] theorem Status.failed_outValid (t : Status) (e : ErrorCode) :
    (t.failed e).outValid = t.outValid := rfl
@[simp] theorem Status.failed_errCode (t : Status) (e : ErrorCode) :
    (t.failed e).errCode = e.code := rfl

end Sys2Proof.Machine
end

