-- ==== Sys2Proof/Laws/Ops.lean ====
section
/-! SUPPORT. What each shared operation can do, said once: completing a command, the version check, staging, the buffers,
the grids, the next move, the step. -/

namespace Sys2Proof.Machine

/-! ### Completion -/

/-- A pending command completes by its rule. -/
theorem State.runCommand_pending {s : State} {p : Pend} (h : s.pend = some p) (body : Pend → State → CmdResult) :
    s.runCommand body = .next (body p s).complete := by
  simp [State.runCommand, h]

/-- Everything `runCommand` can do when it answers a next state. -/
theorem State.runCommand_next {s t : State} {body : Pend → State → CmdResult} (h : s.runCommand body = .next t) :
    ∃ p, s.pend = some p ∧ t = (body p s).complete := by
  unfold State.runCommand at h
  cases hp : s.pend with
  | none => simp [hp] at h
  | some p =>
    rw [hp] at h
    exact ⟨p, rfl, by injection h with h; exact h.symm⟩

@[simp] theorem CmdResult.complete_done (s : State) : (CmdResult.done s).complete = s.completeOk := rfl

@[simp] theorem CmdResult.complete_failed (e : ErrorCode) (s : State) :
    (CmdResult.failed e s).complete = s.completeErr e := rfl

@[simp] theorem CmdResult.andThen_done (s : State) (f : State → CmdResult) : (CmdResult.done s).andThen f = f s := rfl

@[simp] theorem CmdResult.andThen_failed (e : ErrorCode) (s : State) (f : State → CmdResult) :
    (CmdResult.failed e s).andThen f = .failed e s := rfl

/-- The state a result stands on, before the status update of its completion. -/
def CmdResult.state : CmdResult → State
  | .done s => s
  | .failed _ s => s

/-- Completion touches STATUS and PEND only. -/
theorem CmdResult.complete_frame (r : CmdResult) :
    r.complete = { r.state with status := r.complete.status, pend := none } := by
  cases r <;> rfl

@[simp] theorem CmdResult.complete_pend (r : CmdResult) : r.complete.pend = none := by cases r <;> rfl

@[simp] theorem CmdResult.complete_mem (r : CmdResult) : r.complete.mem = r.state.mem := by cases r <;> rfl

@[simp] theorem CmdResult.complete_script (r : CmdResult) : r.complete.script = r.state.script := by cases r <;> rfl

theorem versionOk_iff (v : Nat) : versionOk v = true ↔ 1 ≤ v ∧ v ≤ 40 := by
  simp [versionOk, Config.versionMin, Config.versionMax]

theorem degreeOk_iff (n : Nat) : degreeOk n = true ↔ 1 ≤ n ∧ n ≤ 30 := by
  simp [degreeOk, Config.rsDegreeMax]

theorem checkVersion_ok {p : Pend} (h : versionOk p.v = true) (s : State) (k : CmdResult) : checkVersion p s k = k := by
  simp [checkVersion, h]

theorem checkVersion_bad {p : Pend} (h : versionOk p.v = false) (s : State) (k : CmdResult) :
    checkVersion p s k = .failed .badVersion s := by
  simp [checkVersion, h]

/-- The version check either passes its command on or fails with BAD_VERSION and no effect. -/
theorem checkVersion_cases (p : Pend) (s : State) (k : CmdResult) :
    (versionOk p.v = true ∧ checkVersion p s k = k) ∨
      (versionOk p.v = false ∧ checkVersion p s k = .failed .badVersion s) := by
  cases h : versionOk p.v
  · exact .inr ⟨rfl, checkVersion_bad h s k⟩
  · exact .inl ⟨rfl, checkVersion_ok h s k⟩

/-- Everything the candidate check can do (R402, R410). -/
theorem checkCandidate_cases (g h : Grid) (s : State) (k : CmdResult) :
    (g.anyCell Cell.isInvalid = true ∧ checkCandidate g h s k = .failed .badCell s) ∨
      (g.anyCell Cell.isInvalid = false ∧ h.complete = true ∧ checkCandidate g h s k = k) ∨
      (g.anyCell Cell.isInvalid = false ∧ h.complete = false ∧ checkCandidate g h s k = .failed .gridIncomplete s) := by
  cases h1 : g.anyCell Cell.isInvalid <;> cases h2 : h.complete <;> simp [checkCandidate, h1, h2]

/-! ### Buffers -/

@[simp] theorem State.length_readBuf (s : State) (b : Buf) (off n : Nat) : (s.readBuf b off n).length = n := by
  simp [State.readBuf]

/-- What was written to a buffer reads back. -/
theorem State.readBuf_writeBuf_same (s : State) (b : Buf) (off : Nat) (bs : List Byte) :
    (s.writeBuf b off bs).readBuf b off bs.length = bs :=
  Memory.readRange_writeRange_same _ _ _

/-- Entries apart from those written read as before. -/
theorem State.readBuf_writeBuf_apart (s : State) (b c : Buf) (off off' n : Nat) (bs : List Byte)
    (h : c.base + off' + n ≤ b.base + off ∨ b.base + off + bs.length ≤ c.base + off') :
    (s.writeBuf b off bs).readBuf c off' n = s.readBuf c off' n :=
  Memory.readRange_writeRange_apart h

/-! ### Cells and grids -/

@[simp] theorem Cell.ofByte_toByte (x : Cell) : Cell.ofByte x.toByte = x := by
  cases x with
  | unfilled => rfl
  | reserved => rfl
  | data b => cases b <;> rfl
  | func b => cases b <;> rfl
  | invalid b => cases b <;> rfl

theorem Cell.toByte_toNat_lt (x : Cell) : x.toByte.toNat < 8 := by
  cases x with
  | unfilled => decide
  | reserved => decide
  | data b => cases b <;> decide
  | func b => cases b <;> decide
  | invalid b => cases b <;> decide

@[simp] theorem length_chunk {α : Type} (w n : Nat) (l : List α) : (chunk w n l).length = n := by
  induction n generalizing l with
  | zero => rfl
  | succ n ih => simp [chunk, ih]

/-- Cutting rows of equal width off their concatenation gives the rows. -/
theorem chunk_flatten {α : Type} (w : Nat) (ll : List (List α)) (h : ∀ l ∈ ll, l.length = w) :
    chunk w ll.length ll.flatten = ll := by
  induction ll with
  | nil => rfl
  | cons l ll ih =>
    have hl : l.length = w := h l (by simp)
    rw [List.length_cons, List.flatten_cons, chunk, List.take_left' hl, List.drop_left' hl,
      ih fun x hx => h x (by simp [hx])]

theorem Grid.length_toBytes {g : Grid} {n : Nat} (h : g.Square n) : g.toBytes.length = n * n := by
  have : ∀ (g : Grid), (∀ row ∈ g, row.length = n) → g.toBytes.length = g.length * n := by
    intro g hg
    induction g with
    | nil => simp [Grid.toBytes]
    | cons row g ih =>
      have h1 := ih fun r hr => hg r (by simp [hr])
      simp only [Grid.toBytes, List.flatMap_cons, List.length_append, List.length_map, List.length_cons] at h1 ⊢
      rw [h1, hg row (by simp), Nat.add_mul, Nat.one_mul, Nat.add_comm]
  rw [this g h.2, h.1]

/-- A stored region reads back as the grid. -/
theorem Grid.ofBytes_toBytes {g : Grid} {n : Nat} (h : g.Square n) : Grid.ofBytes n g.toBytes = g := by
  have hmap : g.toBytes.map Cell.ofByte = g.flatten := by
    simp [Grid.toBytes, List.map_flatMap, Function.comp_def, List.flatMap_id']
  rw [Grid.ofBytes, hmap]
  have := chunk_flatten n g h.2
  rwa [h.1] at this

/-- A region written to a grid buffer reads back as the grid. -/
theorem State.readGrid_writeGrid_same (s : State) (b : Buf) {g : Grid} {v : Nat} (h : g.Square (size v)) :
    (s.writeGrid b g).readGrid b v = g := by
  have hlen := Grid.length_toBytes h
  rw [State.readGrid, State.writeGrid, ← hlen, State.readBuf_writeBuf_same, Grid.ofBytes_toBytes h]

theorem Grid.tabulate_square (n : Nat) (f : Nat → Nat → Cell) : (Grid.tabulate n f).Square n := by
  refine ⟨by simp [Grid.tabulate], fun row hrow => ?_⟩
  obtain ⟨r, _, rfl⟩ := List.mem_map.1 hrow
  simp

/-- A tabulated grid holds the given cells. -/
theorem Grid.get_tabulate {n r c : Nat} (f : Nat → Nat → Cell) (hr : r < n) (hc : c < n) :
    (Grid.tabulate n f).get r c = f r c := by
  simp [Grid.get, Grid.tabulate, List.getD_eq_getElem?_getD, hr, hc]

theorem Grid.set_square {g : Grid} {n : Nat} (h : g.Square n) (r c : Nat) (x : Cell) : (g.set r c x).Square n := by
  refine ⟨by simp [Grid.set, h.1], fun row hrow => ?_⟩
  obtain ⟨i, hi, rfl⟩ := List.mem_iff_getElem.1 hrow
  simp only [Grid.set, List.getElem_modify]
  split
  · rw [List.length_set]
    exact h.2 _ (List.getElem_mem _)
  · exact h.2 _ (List.getElem_mem _)

/-- Reading a cell after writing one. -/
theorem Grid.get_set {g : Grid} {n r c : Nat} (h : g.Square n) (hr : r < n) (hc : c < n) (x : Cell) (r' c' : Nat) :
    (g.set r c x).get r' c' = if r' = r ∧ c' = c then x else g.get r' c' := by
  unfold Grid.get Grid.set
  simp only [List.getD_eq_getElem?_getD, List.getElem?_modify]
  by_cases hrr : r' = r
  · subst hrr
    have hlt : r' < g.length := by rw [h.1]; exact hr
    have hrow : c < (g[r']).length := by rw [h.2 _ (List.getElem_mem hlt)]; exact hc
    by_cases hcc : c' = c
    · subst hcc
      simp [hlt, hrow]
    · have : ¬ c = c' := fun e => hcc e.symm
      simp [hlt, hcc, this]
  · have : ¬ r = r' := fun e => hrr e.symm
    simp [hrr, this]

theorem funcGrid_square (v : Nat) : (funcGrid v).Square (size v) := Grid.tabulate_square _ _

theorem candidate_square (n lv m : Nat) (g : Grid) : (candidate n lv m g).Square n := Grid.tabulate_square _ _

theorem placeBits_square {n : Nat} (l : List (Nat × Nat)) (bits : List Bool) {g : Grid} (h : g.Square n) :
    (placeBits l bits g).Square n := by
  induction l generalizing bits g with
  | nil => exact h
  | cons rc l ih =>
    unfold placeBits
    split
    · split
      · exact h
      · exact ih _ (Grid.set_square h _ _ _)
    · exact ih _ h

theorem chunk_width {α : Type} (w n : Nat) (l : List α) (h : n * w ≤ l.length) : ∀ row ∈ chunk w n l, row.length = w := by
  induction n generalizing l with
  | zero => simp [chunk]
  | succ n ih =>
    have hw : n * w + w ≤ l.length := by rwa [Nat.succ_mul] at h
    intro row hrow
    rcases List.mem_cons.1 hrow with rfl | hrow
    · rw [List.length_take]
      omega
    · exact ih (l.drop w) (by rw [List.length_drop]; omega) row hrow

/-- A region read from a buffer is square. -/
theorem State.readGrid_square (s : State) (b : Buf) (v : Nat) : (s.readGrid b v).Square (size v) :=
  ⟨by simp [State.readGrid, Grid.ofBytes], chunk_width _ _ _ (by simp)⟩

/-! ### The next move and the step -/

theorem State.nextMove_engine {s : State} {rest : List Event} (h : s.script = .engine :: rest) :
    s.nextMove = { s with script := rest }.engineMove := by
  simp [State.nextMove, h, State.eventMove]

theorem State.nextMove_empty {s : State} (h : s.script = []) : s.nextMove = s.engineMove := by
  simp [State.nextMove, h]

/-- Everything the engine's turn can come to. -/
theorem State.engineMove_cases (s : State) :
    (s.pend = none ∧ s.engineMove = .moved s) ∨
      (∃ p i, s.pend = some p ∧ decode p.word = .ok i ∧ s.engineMove = .run i s) ∨
      (∃ p e, s.pend = some p ∧ decode p.word = .error e ∧ s.engineMove = .moved (s.completeErr .illegalCmd)) := by
  unfold State.engineMove
  cases hp : s.pend with
  | none => exact .inl ⟨rfl, rfl⟩
  | some p =>
    cases hd : decode p.word with
    | ok i => exact .inr (.inl ⟨p, i, rfl, hd, by simp [hd]⟩)
    | error e => exact .inr (.inr ⟨p, e, rfl, hd, by simp [hd]⟩)

end Sys2Proof.Machine
end

