-- ==== Sys2Proof/Laws/Grid.lean ====
section
/-! SUPPORT. Grids by coordinate: what reading, writing, counting and searching a region say of its cells. -/

namespace Sys2Proof.Machine

/-- Item `c` of piece `r` is item r×w + c of the list. -/
theorem chunk_getElem? {α : Type} (w n : Nat) (l : List α) {r c : Nat} (hr : r < n) (hc : c < w) :
    ((chunk w n l)[r]?.getD [])[c]? = l[r * w + c]? := by
  induction n generalizing l r with
  | zero => omega
  | succ n ih =>
    cases r with
    | zero => simp [chunk, hc]
    | succ r =>
      have := ih (l.drop w) (r := r) (by omega)
      rw [List.getElem?_drop] at this
      simp only [chunk, List.getElem?_cons_succ]
      rw [this, Nat.succ_mul]
      congr 1
      omega

/-- A cell of a region lies before the region's end. -/
theorem cell_index_lt {n r c : Nat} (hr : r < n) (hc : c < n) : r * n + c < n * n := by
  calc r * n + c < r * n + n := by omega
    _ = (r + 1) * n := by rw [Nat.succ_mul]
    _ ≤ n * n := Nat.mul_le_mul_right n hr

/-- A cell of a region read from a buffer is the byte at its address. -/
theorem State.readGrid_get (s : State) (b : Buf) (v : Nat) {r c : Nat} (hr : r < size v) (hc : c < size v) :
    (s.readGrid b v).get r c = Cell.ofByte (s.mem.read (b.base + (r * size v + c))) := by
  have hlt := cell_index_lt hr hc
  have h := chunk_getElem? (size v) (size v) ((s.readBuf b 0 (size v * size v)).map Cell.ofByte) hr hc
  rw [Grid.get, State.readGrid, Grid.ofBytes, List.getD_eq_getElem?_getD, List.getD_eq_getElem?_getD, h, List.getElem?_map,
    State.readBuf, Memory.readRange_eq]
  simp [hlt]

/-- Every cell of a square grid is a `get`. -/
theorem Grid.row_get {g : Grid} {n r c : Nat} (h : g.Square n) (hr : r < n) (hc : c < n) :
    ∃ row, g[r]? = some row ∧ row[c]? = some (g.get r c) := by
  have hlt : r < g.length := by rw [h.1]; exact hr
  have hrow : c < (g[r]).length := by rw [h.2 _ (List.getElem_mem hlt)]; exact hc
  exact ⟨g[r], by simp [hlt], by simp [Grid.get, List.getD_eq_getElem?_getD, hlt, hrow]⟩

/-- A search of a region is a search over its coordinates. -/
theorem Grid.anyCell_iff {g : Grid} {n : Nat} (h : g.Square n) (q : Cell → Bool) :
    g.anyCell q = true ↔ ∃ r c, r < n ∧ c < n ∧ q (g.get r c) = true := by
  constructor
  · intro hany
    obtain ⟨row, hrow, hq⟩ := List.any_eq_true.1 hany
    obtain ⟨x, hx, hqx⟩ := List.any_eq_true.1 hq
    obtain ⟨r, hr, rfl⟩ := List.mem_iff_getElem.1 hrow
    obtain ⟨c, hc, rfl⟩ := List.mem_iff_getElem.1 hx
    refine ⟨r, c, h.1 ▸ hr, h.2 _ hrow ▸ hc, ?_⟩
    simpa [Grid.get, List.getD_eq_getElem?_getD, hr, hc] using hqx
  · rintro ⟨r, c, hr, hc, hq⟩
    obtain ⟨row, h1, h2⟩ := Grid.row_get h hr hc
    exact List.any_eq_true.2 ⟨row, List.mem_of_getElem? h1, List.any_eq_true.2 ⟨_, List.mem_of_getElem? h2, hq⟩⟩

/-- Completeness of a region is completeness of each cell. -/
theorem Grid.complete_iff {g : Grid} {n : Nat} (h : g.Square n) :
    g.complete = true ↔ ∀ r c, r < n → c < n → (g.get r c).isComplete = true := by
  constructor
  · intro hall r c hr hc
    obtain ⟨row, h1, h2⟩ := Grid.row_get h hr hc
    exact List.all_eq_true.1 (List.all_eq_true.1 hall row (List.mem_of_getElem? h1)) _ (List.mem_of_getElem? h2)
  · intro hall
    refine List.all_eq_true.2 fun row hrow => List.all_eq_true.2 fun x hx => ?_
    obtain ⟨r, hr, rfl⟩ := List.mem_iff_getElem.1 hrow
    obtain ⟨c, hc, rfl⟩ := List.mem_iff_getElem.1 hx
    have := hall r c (h.1 ▸ hr) (h.2 _ hrow ▸ hc)
    simpa [Grid.get, List.getD_eq_getElem?_getD, hr, hc] using this

/-- Square grids with the same cells are the same grid. -/
theorem Grid.ext_get {g g' : Grid} {n : Nat} (h : g.Square n) (h' : g'.Square n)
    (heq : ∀ r c, r < n → c < n → g.get r c = g'.get r c) : g = g' := by
  refine List.ext_getElem (by rw [h.1, h'.1]) fun r hr hr' => ?_
  have hrn : r < n := h.1 ▸ hr
  refine List.ext_getElem (by rw [h.2 _ (List.getElem_mem hr), h'.2 _ (List.getElem_mem hr')]) fun c hc hc' => ?_
  have hcn : c < n := h.2 _ (List.getElem_mem hr) ▸ hc
  simpa [Grid.get, List.getD_eq_getElem?_getD, hr, hr', hc, hc'] using heq r c hrn hcn

/-- A square grid is the table of its cells. -/
theorem Grid.tabulate_get {g : Grid} {n : Nat} (h : g.Square n) : Grid.tabulate n g.get = g :=
  Grid.ext_get (Grid.tabulate_square n _) h fun _ _ hr hc => Grid.get_tabulate _ hr hc

/-- Counting in a table is counting over the coordinates. -/
theorem Grid.count_tabulate (n : Nat) (f : Nat → Nat → Cell) (q : Cell → Bool) :
    (Grid.tabulate n f).count q = (coordinates n).countP fun rc => q (f rc.1 rc.2) := by
  simp [Grid.count, Grid.tabulate, coordinates, List.countP_flatMap, List.countP_map, Function.comp_def]

/-- Counting in a region is counting over its coordinates. -/
theorem Grid.count_eq {g : Grid} {n : Nat} (h : g.Square n) (q : Cell → Bool) :
    g.count q = (coordinates n).countP fun rc => q (g.get rc.1 rc.2) := by
  rw [← Grid.count_tabulate, Grid.tabulate_get h]

/-- The module values of a table. -/
theorem Grid.values_tabulate (n : Nat) (f : Nat → Nat → Cell) : (Grid.tabulate n f).values = valueGrid n f := by
  simp [Grid.values, Grid.tabulate, valueGrid, Function.comp_def]

/-- Cell (r, c) of a square grid's stored cells stands at index r×n + c. -/
theorem Grid.toBytes_getElem? {g : Grid} {n r c : Nat} (h : g.Square n) (hr : r < n) (hc : c < n) :
    g.toBytes[r * n + c]? = some (g.get r c).toByte := by
  have h1 : chunk n n g.toBytes = g.map fun row => row.map Cell.toByte := by
    have := chunk_flatten n (g.map fun row => row.map Cell.toByte) (by
      intro l hl
      obtain ⟨row, hrow, rfl⟩ := List.mem_map.1 hl
      rw [List.length_map, h.2 _ hrow])
    rw [List.length_map, h.1] at this
    rwa [Grid.toBytes, List.flatMap]
  rw [← chunk_getElem? n n _ hr hc, h1]
  obtain ⟨row, hrow, hcell⟩ := Grid.row_get h hr hc
  simp [hrow, hcell]

/-- After a region is written, its addresses hold its cells. -/
theorem State.read_writeGrid {g : Grid} {n r c : Nat} (h : g.Square n) (s : State) (b : Buf) (hr : r < n) (hc : c < n) :
    (s.writeGrid b g).mem.read (b.base + (r * n + c)) = (g.get r c).toByte := by
  have hlt : r * n + c < g.toBytes.length := by
    rw [Grid.length_toBytes h]
    exact cell_index_lt hr hc
  have hget := Grid.toBytes_getElem? h hr hc
  simp only [State.writeGrid, State.writeBuf, Nat.add_zero]
  rw [Memory.read_writeRange_inside hlt, List.getD_eq_getElem?_getD, hget, Option.getD_some]

/-- Writing a region leaves every address outside it. -/
theorem State.read_writeGrid_outside {g : Grid} {n a : Nat} (h : g.Square n) (s : State) (b : Buf)
    (ha : a < b.base ∨ b.base + n * n ≤ a) : (s.writeGrid b g).mem.read a = s.mem.read a := by
  simp only [State.writeGrid, State.writeBuf, Nat.add_zero]
  exact Memory.read_writeRange_outside (by rwa [Grid.length_toBytes h])

end Sys2Proof.Machine
end

