-- ==== Sys2Proof/Machine/HostEncode.lean ====
section
/-! DEFINITION. The end-to-end encoder of spec/48_host_pipeline.md R477: the host's half, its transactions with the block,
what it requires of STATUS, and the matrix it reads from BEST. Host software, not hardware: nothing of the block's step
reads this file. -/

namespace Sys2Proof.Machine

/-- `k` steps of the machine; `none` where one does not answer a next state. -/
def State.stepMany : Nat → State → Option State
  | 0, s => some s
  | k + 1, s =>
    match step s with
    | .next t => t.stepMany k
    | .fault _ => none
    | .refused _ => none

/-- The state after exactly these moves: they are the script, one step each. -/
def State.play (s : State) (moves : List Event) : Option State := { s with script := moves }.stepMany moves.length

/-- "require STATUS.DONE = 1 and STATUS.OUT_VALID = 1" (R477), of the STATUS word the host has read. -/
def outputReady (status : Word) : Bool := status.getLsbD 1 && status.getLsbD 5

/-- The host's reads of the region of BEST, one per four cells (R477, spec/20_memory.md R107). -/
def readoutEvents (v : Nat) : List Event :=
  (List.range ((size v * size v + 3) / 4)).map fun k => Event.read (Buf.best.addr (4 * k))

/-- matrix[r][c] = bit 0 of the cell at r×SIZE + c, from the words read, in reading order (R477). -/
def matrixOfWords (v : Nat) (ws : List Word) : List (List Bool) :=
  chunk (size v) (size v) (((ws.flatMap bytesOfWord).take (size v * size v)).map fun x => x.getLsbD 0)

/-- What encode(s) answers: the matrix, or "no matrix" with the host's error where there is one, and the state the block is
left in (R477). -/
inductive EncodeAnswer where
  | matrix (rows : List (List Bool)) (s : State)
  /-- A host error: the block has seen no transaction (R465). -/
  | hostFailed (e : HostError) (s : State)
  /-- The requirement on STATUS is not met, so that no cell is read. The spec names the requirement and no outcome of its
  failure: "no matrix" is the model's choice (log entry 13). -/
  | notReady (s : State)
  deriving DecidableEq, Repr

/-- The sentinel "no matrix" as `none` (R477). -/
def EncodeAnswer.output : EncodeAnswer → Option (List (List Bool))
  | .matrix rows _ => some rows
  | .hostFailed _ _ => none
  | .notReady _ => none

/-- The host's reading of its output, once ENCODE's `wait` has ended: the last word read is STATUS (R477). -/
def State.readOutput (s : State) (v : Nat) : EncodeAnswer :=
  if outputReady (s.hostLog.headD 0#32) then
    match s.play (readoutEvents v) with
    | some t => .matrix (matrixOfWords v (t.hostLog.take (readoutEvents v).length).reverse) t
    | none => .notReady s
  else .notReady s

/-- The transactions of a job with the block, then the reading of its output (R477). -/
def HostJob.run (j : HostJob) (polls : Nat) (s : State) : EncodeAnswer :=
  match s.play (j.events polls) with
  | some t => t.readOutput j.version
  | none => .notReady s

/-- encode(s) of R477: characters `cs` on the block in state `s`, with `polls` reads of STATUS that still see BUSY = 1. -/
def encodeString (kt : KanjiTable) (cs : List Nat) (polls : Nat) (s : State) : EncodeAnswer :=
  match hostEncode kt cs with
  | .error e => .hostFailed e s
  | .ok j => j.run polls s

end Sys2Proof.Machine
end

