-- ==== Sys2Proof/Laws/HostEncode.lean ====
section
/-! SUPPORT. What the end-to-end encoder of R477 can answer. -/

namespace Sys2Proof.Machine

/-- A host error reaches no block: no matrix, and the state as it was (R465, R477). -/
theorem encodeString_of_error {kt : KanjiTable} {cs : List Nat} {e : HostError} (h : hostEncode kt cs = .error e)
    (polls : Nat) (s : State) : encodeString kt cs polls s = .hostFailed e s := by
  simp [encodeString, h]

/-- A good input is its job's run. -/
theorem encodeString_of_job {kt : KanjiTable} {cs : List Nat} {j : HostJob} (h : hostEncode kt cs = .ok j)
    (polls : Nat) (s : State) : encodeString kt cs polls s = j.run polls s := by
  simp [encodeString, h]

/-- Where the requirement on STATUS fails, no cell is read. -/
theorem State.readOutput_notReady {s : State} (h : outputReady (s.hostLog.headD 0#32) = false) (v : Nat) :
    s.readOutput v = .notReady s := by
  unfold State.readOutput
  rw [h]
  rfl

/-- Everything a matrix answer says: STATUS met the requirement, and the matrix is what the reads of BEST returned. -/
theorem State.readOutput_matrix {s t : State} {v : Nat} {rows : List (List Bool)} (h : s.readOutput v = .matrix rows t) :
    outputReady (s.hostLog.headD 0#32) = true ∧ s.play (readoutEvents v) = some t ∧
      rows = matrixOfWords v (t.hostLog.take (readoutEvents v).length).reverse := by
  unfold State.readOutput at h
  split at h
  · next hready =>
    split at h
    · next hplay =>
      cases h
      exact ⟨hready, hplay, rfl⟩
    · cases h
  · cases h

/-- A job answers a matrix only through the reading of its output. -/
theorem HostJob.run_matrix {j : HostJob} {polls : Nat} {s t : State} {rows : List (List Bool)}
    (h : j.run polls s = .matrix rows t) :
    ∃ u, s.play (j.events polls) = some u ∧ u.readOutput j.version = .matrix rows t := by
  unfold HostJob.run at h
  split at h
  · next hplay => exact ⟨_, hplay, h⟩
  · cases h

end Sys2Proof.Machine
end

