-- ==== Sys2Proof/Laws/PerInstr.lean ====
section
/-! SUPPORT. Per-instruction statements: the coding of every command (spec/30_encoding.md R150, R151). -/

namespace Sys2Proof.Laws.Coding

/-- The command is well formed, its word has a zero ZERO field and an assigned OPC, and decodes to it. -/
def Statement (i : Instr) : Prop := i.wf = true ∧ wordWf (encode i) = true ∧ decode (encode i) = .ok i

theorem nop : Statement .nop := ⟨rfl, rfl, rfl⟩
theorem capChars : Statement .capChars := ⟨rfl, rfl, rfl⟩
theorem capGeom : Statement .capGeom := ⟨rfl, rfl, rfl⟩
theorem capInfo : Statement .capInfo := ⟨rfl, rfl, rfl⟩
theorem capCci : Statement .capCci := ⟨rfl, rfl, rfl⟩
theorem capFmt : Statement .capFmt := ⟨rfl, rfl, rfl⟩
theorem capVer : Statement .capVer := ⟨rfl, rfl, rfl⟩
theorem gfMul : Statement .gfMul := ⟨rfl, rfl, rfl⟩
theorem gfLog : Statement .gfLog := ⟨rfl, rfl, rfl⟩
theorem gfExp : Statement .gfExp := ⟨rfl, rfl, rfl⟩
theorem gfGen : Statement .gfGen := ⟨rfl, rfl, rfl⟩
theorem rsBlock : Statement .rsBlock := ⟨rfl, rfl, rfl⟩
theorem rsEncode : Statement .rsEncode := ⟨rfl, rfl, rfl⟩
theorem interleave : Statement .interleave := ⟨rfl, rfl, rfl⟩
theorem buildFunc : Statement .buildFunc := ⟨rfl, rfl, rfl⟩
theorem placeData : Statement .placeData := ⟨rfl, rfl, rfl⟩
theorem freeCount : Statement .freeCount := ⟨rfl, rfl, rfl⟩
theorem maskApply : Statement .maskApply := ⟨rfl, rfl, rfl⟩
theorem maskScore : Statement .maskScore := ⟨rfl, rfl, rfl⟩
theorem maskSelect : Statement .maskSelect := ⟨rfl, rfl, rfl⟩
theorem encode : Statement .encode := ⟨rfl, rfl, rfl⟩

end Sys2Proof.Laws.Coding
end

