-- ==== Sys2Proof/Tests/Slice0.lean ====
section
/-! SUPPORT. The model's own tests: ill-formed words, one word per command, one step per command against the vectors of
spec/95_test_vectors.md (V-… names), and a witness for the hypotheses of every statement. -/

namespace Sys2Proof.Tests

open Sys2Proof.Machine

/-! ### WellFormed: each check refuses a word, and a good word passes -/

/-- R150: a bit of ZERO set (V-CT-3's word). -/
theorem test_zeroField_refuses : zeroFieldOk 0x00000100#32 = false := by decide

/-- R154: the first and the last unassigned opcode. -/
theorem test_opcode_refuses : opcodeOk 0x00000001#32 = false ∧ opcodeOk 0x000000FF#32 = false := by decide

/-- R153: either check makes a word ill formed. -/
theorem test_wordWf : wordWf 0x00000100#32 = false ∧ wordWf 0x00000051#32 = false ∧ wordWf 0x00000050#32 = true := by
  decide

/-- R154: 235 opcodes are unassigned. -/
theorem test_unassigned_count : (List.range 256).countP (fun o => !assignedOpcodes.contains o) = 235 := by
  decide +kernel

/-! ### Decode: a word written out for every command (R150, R151) -/

/-- NOP: ZERO = 0, OPC = 0x00. -/
theorem test_decode_nop : decode (0x000000#24 ++ 0b00000000#8) = .ok .nop := rfl

/-- CAP_CHARS: ZERO = 0, OPC = 0x10. -/
theorem test_decode_capChars : decode (0x000000#24 ++ 0b00010000#8) = .ok .capChars := rfl

/-- CAP_GEOM: ZERO = 0, OPC = 0x11. -/
theorem test_decode_capGeom : decode (0x000000#24 ++ 0b00010001#8) = .ok .capGeom := rfl

/-- CAP_INFO: ZERO = 0, OPC = 0x12. -/
theorem test_decode_capInfo : decode (0x000000#24 ++ 0b00010010#8) = .ok .capInfo := rfl

/-- CAP_CCI: ZERO = 0, OPC = 0x13. -/
theorem test_decode_capCci : decode (0x000000#24 ++ 0b00010011#8) = .ok .capCci := rfl

/-- CAP_FMT: ZERO = 0, OPC = 0x14. -/
theorem test_decode_capFmt : decode (0x000000#24 ++ 0b00010100#8) = .ok .capFmt := rfl

/-- CAP_VER: ZERO = 0, OPC = 0x15. -/
theorem test_decode_capVer : decode (0x000000#24 ++ 0b00010101#8) = .ok .capVer := rfl

/-- GF_MUL: ZERO = 0, OPC = 0x20. -/
theorem test_decode_gfMul : decode (0x000000#24 ++ 0b00100000#8) = .ok .gfMul := rfl

/-- GF_LOG: ZERO = 0, OPC = 0x21. -/
theorem test_decode_gfLog : decode (0x000000#24 ++ 0b00100001#8) = .ok .gfLog := rfl

/-- GF_EXP: ZERO = 0, OPC = 0x22. -/
theorem test_decode_gfExp : decode (0x000000#24 ++ 0b00100010#8) = .ok .gfExp := rfl

/-- GF_GEN: ZERO = 0, OPC = 0x23. -/
theorem test_decode_gfGen : decode (0x000000#24 ++ 0b00100011#8) = .ok .gfGen := rfl

/-- RS_BLOCK: ZERO = 0, OPC = 0x24. -/
theorem test_decode_rsBlock : decode (0x000000#24 ++ 0b00100100#8) = .ok .rsBlock := rfl

/-- RS_ENCODE: ZERO = 0, OPC = 0x25. -/
theorem test_decode_rsEncode : decode (0x000000#24 ++ 0b00100101#8) = .ok .rsEncode := rfl

/-- INTERLEAVE: ZERO = 0, OPC = 0x26. -/
theorem test_decode_interleave : decode (0x000000#24 ++ 0b00100110#8) = .ok .interleave := rfl

/-- BUILD_FUNC: ZERO = 0, OPC = 0x30. -/
theorem test_decode_buildFunc : decode (0x000000#24 ++ 0b00110000#8) = .ok .buildFunc := rfl

/-- PLACE_DATA: ZERO = 0, OPC = 0x31. -/
theorem test_decode_placeData : decode (0x000000#24 ++ 0b00110001#8) = .ok .placeData := rfl

/-- FREE_COUNT: ZERO = 0, OPC = 0x32. -/
theorem test_decode_freeCount : decode (0x000000#24 ++ 0b00110010#8) = .ok .freeCount := rfl

/-- MASK_APPLY: ZERO = 0, OPC = 0x40. -/
theorem test_decode_maskApply : decode (0x000000#24 ++ 0b01000000#8) = .ok .maskApply := rfl

/-- MASK_SCORE: ZERO = 0, OPC = 0x41. -/
theorem test_decode_maskScore : decode (0x000000#24 ++ 0b01000001#8) = .ok .maskScore := rfl

/-- MASK_SELECT: ZERO = 0, OPC = 0x42. -/
theorem test_decode_maskSelect : decode (0x000000#24 ++ 0b01000010#8) = .ok .maskSelect := rfl

/-- ENCODE: ZERO = 0, OPC = 0x50. -/
theorem test_decode_encode : decode (0x000000#24 ++ 0b01010000#8) = .ok .encode := rfl

/-- Refusals by name: ZERO, an unassigned opcode, too few bytes. -/
theorem test_decode_refuses :
    decode 0x80000010#32 = .error .zeroFieldSet ∧ decode 0x00000027#32 = .error (.unassignedOpcode 0x27) ∧
      decodeBytes [0x50#8, 0x00#8, 0x00#8] = .error .truncated := ⟨rfl, rfl, rfl⟩

/-- R102: the low byte of a word lies lowest. -/
theorem test_decodeBytes : decodeBytes [0x42#8, 0#8, 0#8, 0#8, 0x99#8] = .ok (.maskSelect, [0x99#8]) := rfl

theorem test_decodeTableWord : decodeTableWord 32 0x50 = some .encode ∧ decodeTableWord 8 0x50 = some .encode ∧
    decodeTableWord 32 0x100 = none := by decide

/-! ### One step of each command -/

/-- A state after reset with operand registers and memory of one's own. -/
def setup (v lv : Nat) (a0 a1 a2 : Word) (cb : Nat) (m : Memory) : State :=
  { State.reset with
    version := BitVec.ofNat 6 v
    level := BitVec.ofNat 2 lv
    arg0 := a0
    arg1 := a1
    arg2 := a2
    cwBits := BitVec.ofNat 16 cb
    mem := m }

/-- The state one step after the command is placed to run. -/
def after (w : Nat) (s : State) : State :=
  match step (s.withFetchWord 32 w) with
  | .next t => t
  | .fault _ => s
  | .refused _ => s

/-- STATUS and RES0 to RES3 after the command. -/
def results (w : Nat) (s : State) : Word × List Word :=
  let t := after w s
  (t.status.toWord t.busy, [t.res.r0, t.res.r1, t.res.r2, t.res.r3])

/-- V-CT-1, with a version no other command would take. -/
theorem test_nop : results 0x00 (setup 63 0 0 0 0 0 []) = (0x2#32, [0, 0, 0, 0]) := by decide +kernel

/-- V-CAP-3, V-CAP-7. -/
theorem test_capChars : results 0x10 (setup 40 3 1 0 0 0 []) = (0x2#32, [1852, 0, 0, 0]) ∧
    results 0x10 (setup 0 3 1 0 0 0 []) = (0x204#32, [0, 0, 0, 0]) := by decide +kernel

/-- V-CAP-10. -/
theorem test_capGeom : results 0x11 (setup 40 3 0 0 0 0 []) = (0x2#32, [0x001E04FC, 0x103D0F14, 0x00510E7A, 0]) := by
  decide +kernel

/-- V-CAP-17. -/
theorem test_capInfo : results 0x12 (setup 40 0 0 0 0 0 []) = (0x2#32, [0x000700B1, 0x563A1E06, 0x00AA8E72, 0]) := by
  decide +kernel

/-- V-CAP-22, V-CAP-23: the last version of tier 1, the first of tier 2. -/
theorem test_capCci : results 0x13 (setup 26 0 1 0 0 0 []) = (0x2#32, [0x20B, 0, 0, 0]) ∧
    results 0x13 (setup 27 0 0 0 0 0 []) = (0x2#32, [0x10E, 0, 0, 0]) := by decide +kernel

/-- V-CAP-30, V-CAP-25: bit 3 of ARG0 ignored; VERSION not read. -/
theorem test_capFmt : results 0x14 (setup 1 3 0xF 0 0 0 []) = (0x2#32, [0x083B, 0, 0, 0]) ∧
    results 0x14 (setup 0 0 0 0 0 0 []) = (0x2#32, [0x77C4, 0, 0, 0]) := by decide +kernel

/-- V-CAP-34, V-CAP-35, V-CAP-36. -/
theorem test_capVer : results 0x15 (setup 40 0 0 0 0 0 []) = (0x2#32, [0x28C69, 0, 0, 0]) ∧
    results 0x15 (setup 6 0 0 0 0 0 []) = (0x304#32, [0, 0, 0, 0]) ∧
    results 0x15 (setup 41 0 0 0 0 0 []) = (0x204#32, [0, 0, 0, 0]) := by decide +kernel

/-- V-GF-6, V-GF-7. -/
theorem test_gfMul : results 0x20 (setup 1 0 0x0000CA53 0 0 0 []) = (0x2#32, [0x8F, 0, 0, 0]) ∧
    results 0x20 (setup 1 0 0xFFFF8002 0 0 0 []) = (0x2#32, [0x1D, 0, 0, 0]) := by decide +kernel

/-- V-GF-13, V-GF-15. -/
theorem test_gfLog : results 0x21 (setup 1 0 0x8E 0 0 0 []) = (0x2#32, [254, 0, 0, 0]) ∧
    results 0x21 (setup 1 0 0x100 0 0 0 []) = (0x404#32, [0, 0, 0, 0]) := by decide +kernel

/-- V-GF-21, V-GF-22. -/
theorem test_gfExp : results 0x22 (setup 1 0 254 0 0 0 []) = (0x2#32, [142, 0, 0, 0]) ∧
    results 0x22 (setup 1 0 255 0 0 0 []) = (0x2#32, [1, 0, 0, 0]) := by decide +kernel

/-- V-GF-32, V-GF-35. -/
theorem test_gfGen : results 0x23 (setup 1 0 0x1E1E 0 0 0 []) = (0x2#32, [0xB496, 0, 0, 0]) ∧
    results 0x23 (setup 1 0 0x0807 0 0 0 []) = (0x304#32, [0, 0, 0, 0]) := by decide +kernel

/-- HELLO WORLD's data codewords (V-RS-3). -/
def hello : List Byte :=
  [32#8, 91#8, 11#8, 120#8, 209#8, 114#8, 220#8, 77#8, 67#8, 64#8, 236#8, 17#8, 236#8, 17#8, 236#8, 17#8]

/-- MSG holding them. -/
def helloMem : Memory := Memory.writeRange [] 0x01000 hello

/-- V-RS-3, with a destination of its own: ECC[3..12]. -/
theorem test_rsBlock : (after 0x24 (setup 1 0 0 0x00000A10 3 0 helloMem)).readBuf .ecc 2 12 =
    [0#8, 196#8, 35#8, 39#8, 119#8, 235#8, 215#8, 231#8, 226#8, 93#8, 23#8, 0#8] := by decide +kernel

/-- V-RS-9: the largest legal source range, and one byte more. -/
theorem test_rsBlock_range :
    (results 0x24 (setup 1 0 0xFF0 0x00000A10 0 0 [])).1 = 0x2#32 ∧
      (results 0x24 (setup 1 0 0xFF0 0x00000A11 0 0 [])).1 = 0x304#32 := by decide +kernel

/-- V-RS-5. -/
theorem test_rsEncode : (after 0x25 (setup 2 3 0 0 0 0 helloMem)).readBuf .ecc 0 29 =
    [160#8, 72#8, 249#8, 35#8, 10#8, 6#8, 195#8, 31#8, 94#8, 27#8, 113#8, 37#8, 124#8, 145#8, 66#8, 90#8, 54#8, 168#8,
      56#8, 162#8, 2#8, 77#8, 162#8, 41#8, 163#8, 243#8, 119#8, 37#8, 0#8] := by decide +kernel

/-- V-IL-2: MSG[k] = k, ECC[k] = 200 for k < 72, version 5-Q. -/
theorem test_interleave :
    let m := (Memory.writeRange [] 0x01000 ((List.range 62).map (BitVec.ofNat 8))).writeRange 0x02000
      (List.replicate 72 200#8)
    let t := after 0x26 (setup 5 2 0 0 0 0 m)
    t.cwBits = 1079#16 ∧ t.readBuf .cw 0 12 = [0#8, 15#8, 30#8, 46#8, 1#8, 16#8, 31#8, 47#8, 2#8, 17#8, 32#8, 48#8] ∧
      t.readBuf .cw 56 7 = [14#8, 29#8, 44#8, 60#8, 45#8, 61#8, 200#8] ∧ t.readBuf .cw 133 3 = [200#8, 0#8, 0#8] := by
  decide +kernel

/-- V-PL-1: cells of BUILD_FUNC at version 1, OUT_VALID cleared. -/
theorem test_buildFunc :
    let t := after 0x30 ((setup 1 0 0 0 0 0 []).setOutValid true)
    t.status.outValid = false ∧ [0, 7, 8, 6 * 21 + 8, 13 * 21 + 8].map (fun k => t.mem.read (0x08000 + k)) =
      [5#8, 4#8, 1#8, 5#8, 5#8] := by decide +kernel

/-- A built version 1 grid. -/
def built : Memory := Memory.writeRange [] 0x08000 (funcGrid 1).toBytes

/-- V-PL-8: S = 1, 0, 0, … 0, 1. -/
theorem test_placeData :
    let t := after 0x31 (setup 1 0 0 0 0 208 ((built.writeRange 0x03000 [0x80#8]).writeRange 0x03019 [0x01#8]))
    (results 0x31 (setup 1 0 0 0 0 208 built)).1 = 0x2#32 ∧
      [(20, 20), (20, 19), (19, 20), (12, 0)].map (fun rc => t.gridCell 1 rc.1 rc.2) =
        [.data true, .data false, .data false, .data true] := by decide +kernel

/-- V-PL-9, V-PL-10 at version 1: PLACE_MISMATCH, and BAD_CELL before it. -/
theorem test_placeData_errors : (results 0x31 (setup 1 0 0 0 0 207 built)).1 = 0x604#32 ∧
    (results 0x31 (setup 1 0 0 0 0 207 (built.writeRange 0x08000 [6#8]))).1 = 0x504#32 := by decide +kernel

/-- V-PL-5. -/
theorem test_freeCount : results 0x32 (setup 1 0 0 0 0 0 built) = (0x2#32, [208, 208, 30, 0]) := by decide +kernel

/-- A version 1 region of light function cells, in GRID or in BEST. -/
def light (base : Nat) : Memory := Memory.writeRange [] base (List.replicate 441 4#8)

/-- R402, R385: FORMAT[M][1] = 0x5125 at the first bits of both copies; the mask given is committed. -/
theorem test_maskApply :
    let t := after 0x40 (setup 1 1 0xFFFFFFF9 0 0 0 (light 0x08000))
    t.status.toWord t.busy = 0x22#32 ∧ t.bestMask = 1#3 ∧
      [(0, 8), (1, 8), (2, 8), (8, 20), (8, 19), (8, 0), (20, 8), (0, 0)].map (fun rc => t.bestCell 1 rc.1 rc.2) =
        [.func true, .func false, .func true, .func true, .func false, .func true, .func true, .func false] := by
  decide +kernel

/-- V-MK-7's code for a built grid that is not placed yet. -/
theorem test_maskApply_incomplete : (results 0x40 (setup 1 0 0 0 0 0 built)).1 = 0x704#32 := by decide +kernel

/-- V-MK-1. -/
theorem test_maskScore : (after 0x41 (setup 1 0 0 0 0 0 (light 0x10000))).pen = ⟨2088, 798, 1200, 0, 90⟩ := by
  decide +kernel

/-- V-MK-6: N1 by maximal runs, N3 by both windows. -/
theorem test_maskScore_motif :
    let row := [4#8, 4#8, 4#8, 4#8, 5#8, 4#8, 5#8, 5#8, 5#8, 4#8, 5#8]
    (after 0x41 (setup 1 0 0 0 0 0 ((light 0x10000).writeRange 0x100D5 row))).pen = ⟨2096, 774, 1152, 80, 90⟩ := by
  decide +kernel

/-- R410, R412: PEN_TOTAL is the least of the eight totals. -/
theorem test_maskSelect :
    let t := after 0x42 (setup 1 0 0 0 0 0 (light 0x08000))
    let totals := [t.penM.m0, t.penM.m1, t.penM.m2, t.penM.m3, t.penM.m4, t.penM.m5, t.penM.m6, t.penM.m7]
    t.status.toWord t.busy = 0x22#32 ∧ totals[t.bestMask.toNat]? = some t.pen.total ∧
      totals.all (fun x => Nat.ble t.pen.total.toNat x.toNat) = true := by decide +kernel

/-- Program P6: HELLO WORLD at 1-M. -/
theorem test_encode :
    let t := after 0x50 (setup 1 1 0 0 0 0 helloMem)
    t.status.toWord t.busy = 0x22#32 ∧ t.cwBits = 208#16 ∧ t.bestMask = 0#3 ∧ t.pen = ⟨311, 172, 99, 40, 0⟩ ∧
      t.penM = ⟨311, 406, 442, 463, 367, 528, 395, 445⟩ := by decide +kernel

/-- R502 for ENCODE. -/
theorem test_encode_version : (results 0x50 (setup 41 1 0 0 0 0 [])).1 = 0x204#32 := by decide +kernel

/-! ### The bus, launches and resets (V-CT) -/

/-- A state with NOP pending and some history. -/
def busy : State :=
  { (setup 1 0 0 0 0 0 [(0x01000, 0x7F#8)]).launch 0#32 with ctrl := ⟨true, false⟩ }

/-- V-CT-3: an illegal word. -/
theorem test_illegal : (results 0x100 State.reset).1 = 0x104#32 ∧ (after 0x100 State.reset).lastCmd = 0x100#32 := by
  decide +kernel

/-- V-CT-9, V-CT-10. -/
theorem test_busy : (busy.hostWrite 0x0000C#17 0x50#32).status.toWord true = 0x9#32 ∧
    busy.busData 0x01000#17 = 0#32 ∧ (busy.hostRead 0x01000#17).status.locked = true ∧
    (busy.hostWrite 0x01000#17 0#32).mem = busy.mem := by decide

/-- V-CT-8, V-CT-12. -/
theorem test_status_and_reset :
    let s := State.reset.completeErr .badVersion
    (s.hostWrite 0x00008#17 0xFFFFFFFB#32).status.toWord false = 0x204#32 ∧
      (s.hostWrite 0x00008#17 0x4#32).status.toWord false = 0#32 ∧
      (busy.hostWrite 0x00004#17 0x80000003#32).ctrl = ⟨false, false⟩ ∧
      (busy.hostWrite 0x00004#17 0x80000003#32).busy = false := by decide

/-- V-CT-13 to V-CT-20. -/
theorem test_registers :
    State.reset.busData 0x00070#17 = 0#32 ∧ State.reset.hostWrite 0x04000#17 1#32 = State.reset ∧
      (State.reset.hostWrite 0#17 0#32).busData 0#17 = 0x51520007#32 ∧ State.reset.busData 0x00010#17 = 1#32 ∧
      (State.reset.hostWrite 0x00010#17 0xFFFFFFFF#32).busData 0x00010#17 = 0x3F#32 ∧
      (State.reset.hostWrite 0x00024#17 0xFFFFFFFF#32).busData 0x00024#17 = 0xFFFF#32 ∧
      (State.reset.hostWrite 0x01002#17 0x44332211#32).readBuf .msg 0 4 = [0x11#8, 0x22#8, 0x33#8, 0x44#8] := by decide

/-- R107: cells keep three bits of their lane. -/
theorem test_cell_lanes : (State.reset.hostWrite 0x17FFC#17 0xFF06000B#32).busData 0x17FFF#17 = 0x07060003#32 := by decide

/-! ### The end-to-end encoder (R477) -/

/-- R385 over R401 (log entry 15): code 0 at a format cell does not make a candidate incomplete. -/
theorem test_format_cell_unfilled :
    (results 0x40 (setup 1 0 0 0 0 0 ((light 0x08000).writeRange 0x08008 [0#8]))).1 = 0x22#32 := by decide +kernel

/-- L1-3: the empty input gives no matrix and no transaction. -/
theorem test_encodeString_empty (kt : KanjiTable) (polls : Nat) (s : State) :
    encodeString kt [] polls s = .hostFailed .emptyInput s :=
  encodeString_of_error rfl polls s

/-- DONE without OUT_VALID, and neither, are not enough. -/
theorem test_output_required : outputReady 0x22#32 = true ∧ outputReady 0x02#32 = false ∧ outputReady 0x20#32 = false := by
  decide

/-- Cells 5, 4, 3, 2 at (0, 0) to (0, 3) and 5 at (20, 20) of a light region, read through the bus. -/
theorem test_readOutput :
    let m := ((light 0x10000).writeRange 0x10000 [5#8, 4#8, 3#8, 2#8]).writeRange 0x101B8 [5#8]
    (({ setup 1 0 0 0 0 0 m with hostLog := [0x22#32] } : State).readOutput 1).output =
      some ((true :: false :: true :: List.replicate 18 false) ::
        (List.replicate 19 (List.replicate 21 false) ++ [List.replicate 20 false ++ [true]])) := by decide +kernel

/-! ### Witnesses of the statements' hypotheses

One theorem per statement with hypotheses, named after it. Where a statement has clauses, each clause has its own
conjunct, at a boundary of its range. -/

/-- A state with word `w` pending. -/
def ready (w : Word) (v lv : Nat) (a0 a1 a2 : Word) (cb : Nat) (m : Memory) : State := (setup v lv a0 a1 a2 cb m).launch w

/-- A pending command whose operands satisfy `q`. -/
abbrev Has (s : State) (q : Pend → Prop) : Prop := ∃ p, s.pend = some p ∧ q p

/-- Both ends of the version range and the values next to them. -/
abbrev VersionClauses : Prop :=
  Has (ready 0 1 0 0 0 0 0 []) Pend.VersionInRange ∧ Has (ready 0 40 3 0 0 0 0 []) Pend.VersionInRange ∧
    Has (ready 0 0 0 0 0 0 0 []) (fun p => ¬p.VersionInRange) ∧ Has (ready 0 41 0 0 0 0 0 []) (fun p => ¬p.VersionInRange)

theorem version_clauses : VersionClauses :=
  ⟨⟨_, rfl, by decide⟩, ⟨_, rfl, by decide⟩, ⟨_, rfl, by decide⟩, ⟨_, rfl, by decide⟩⟩

theorem witness_CapCharsResult : VersionClauses := version_clauses
theorem witness_CapGeomResult : VersionClauses := version_clauses
theorem witness_CapInfoResult : VersionClauses := version_clauses
theorem witness_CapCciResult : VersionClauses := version_clauses
theorem witness_RsEncodeResult : VersionClauses := version_clauses
theorem witness_InterleaveResult : VersionClauses := version_clauses
theorem witness_BuildFuncResult : VersionClauses := version_clauses
theorem witness_EncodeEqualsItsFiveStages : VersionClauses := version_clauses

theorem witness_CapVerResult :
    Has (ready 0x15 7 0 0 0 0 0 []) (fun p => 7 ≤ p.version.toNat ∧ p.version.toNat ≤ 40) ∧
      Has (ready 0x15 6 0 0 0 0 0 []) (fun p => 1 ≤ p.version.toNat ∧ p.version.toNat ≤ 6) ∧
      Has (ready 0x15 41 0 0 0 0 0 []) (fun p => ¬p.VersionInRange) :=
  ⟨⟨_, rfl, by decide⟩, ⟨_, rfl, by decide⟩, ⟨_, rfl, by decide⟩⟩

theorem witness_StepRunsDecodedCommand :
    (∃ p, (ready 0x50 1 0 0 0 0 0 []).pend = some p ∧ decode p.word = .ok .encode ∧ (ready 0x50 1 0 0 0 0 0 []).script = []) ∧
      State.reset.pend = none ∧ ({ State.reset with script := [.engine] } : State).script = .engine :: [] :=
  ⟨⟨_, rfl, rfl, rfl⟩, rfl, rfl⟩

theorem witness_DecodeEncodeAgree : Instr.encode.wf = true ∧ decode 0x50#32 = .ok .encode ∧ wordWf 0x50#32 = true :=
  ⟨rfl, rfl, by decide⟩

/-- The lowest bit of ZERO, and the opcode after the last assigned one. -/
theorem witness_IllegalWordCompletesWithIllegalCmd :
    Has (ready 0x100 1 0 0 0 0 0 []) (fun p => p.word.extractLsb' 8 24 ≠ 0#24) ∧
      Has (ready 0x51 1 0 0 0 0 0 []) (fun p => (p.word.extractLsb' 0 8).toNat ∉ assignedOpcodes) :=
  ⟨⟨_, rfl, by decide⟩, ⟨_, rfl, by decide⟩⟩

theorem witness_CmdWriteLaunches : State.reset.pend = none := rfl

theorem witness_OperandsComeFromPend : Has (ready 0x26 1 0 0 0 0 0 []) (fun _ => writesCwBits .interleave = true) :=
  ⟨_, rfl, rfl⟩

/-- The first and last address of each range of the map where the next range begins. -/
theorem witness_AddressMapAsTabled :
    [0x0006C, 0x00070, 0x00FFC, 0x01000, 0x03FFC, 0x04000, 0x07FFC, 0x08000, 0x0FFFC, 0x10000, 0x17FFC, 0x18000].map placeOf =
      [.reg .penM7, .reserved, .reserved, .window .msg, .window .cw, .reserved, .reserved, .window .grid, .window .grid,
        .window .best, .window .best, .reserved] := by decide

theorem witness_RegisterWritesAsTabled :
    (0x80000000#32).getLsbD 31 = true ∧ (0x7FFFFFFF#32).getLsbD 31 = false ∧ State.reset.pend = none ∧
      busy.pend ≠ none ∧ (0x00028#17).toNat = 0x00028 ∧ (0x0006F#17).toNat < 0x00070 := by decide

theorem witness_ResetsSetEveryRegister :
    (0x80000000#32).getLsbD 31 = true ∧ (0x00000003#32).getLsbD 31 = false := by decide

theorem witness_EveryBufferContentsCanBeDrawn :
    State.reset.MemInv ∧ ({ State.reset with mem := [(0x01000, 9#8), (0x08000, 7#8)] } : State).MemInv := by decide

/-- The first word of the first window and the last word of the last. -/
theorem witness_WindowAccessesWhileIdle :
    State.reset.pend = none ∧ placeOf (wordAddr 0x01003#17) = .window .msg ∧ placeOf (wordAddr 0x17FFF#17) = .window .best ∧
      Buf.isCells .best = true ∧ State.reset.MemInv := by decide

theorem witness_UnalignedAndReservedAddresses :
    (0x00070#17).toNat = 0x00070 ∧ (0x07FFF#17).toNat = 0x07FFF ∧ (0x1FFFF#17).toNat = 0x1FFFF := by decide

theorem witness_WindowLockWhileBusy :
    busy.pend ≠ none ∧ placeOf (wordAddr 0x02000#17) = .window .ecc ∧ placeOf (wordAddr 0x08003#17) = .window .grid := by decide

theorem witness_BusyHostAccessesDoNotInterfere :
    busy.pend ≠ none ∧ busy.StatusInv ∧ ¬((0x00004#17).toNat / 4 = 1 ∧ (0x7FFFFFFF#32).getLsbD 31 = true) := by decide

theorem witness_InterruptFollowsStatusAndEnables :
    (∃ t, exec .nop busy = .next t ∧ busy.ctrl.ieDone = true ∧ t.status.done = true) ∧
      (∃ t, exec .capChars { ready 0x10 0 0 0 0 0 0 [] with ctrl := ⟨false, true⟩ } = .next t ∧ t.status.err = true) ∧
      State.reset.completeOk.status.done = true ∧ (State.reset.completeErr .badArg).status.err = true :=
  ⟨⟨_, rfl, rfl, rfl⟩, ⟨_, rfl, rfl⟩, rfl, rfl⟩

theorem witness_StepAlwaysAnswersANextState : State.reset.pend = none ∧ busy.pend ≠ none := by decide

/-- A pending command with moves of the host still before it. -/
theorem witness_PendingCommandIsGoneWithinTheScript :
    ({ busy with script := [.read 0x00008#17, .write 0x0000C#17 0x50#32] } : State).pend ≠ none := by decide

theorem witness_NopCompletesWithoutEffect : busy.pend ≠ none := by decide

theorem witness_CapFmtResult : (ready 0x14 0 3 7 0 0 0 []).pend ≠ none := by decide

theorem witness_GfMulResult : (ready 0x20 0 0 0xFFFF 0 0 0 []).pend ≠ none := by decide

theorem witness_GfExpResult : (ready 0x22 0 0 255 0 0 0 []).pend ≠ none ∧ 253 < 254 ∧ 254 < 255 := by decide

theorem witness_GfLogResult :
    Has (ready 0x21 0 0 1 0 0 0 []) (fun p => p.arg0.extractLsb' 0 8 ≠ 0#8) ∧
      Has (ready 0x21 0 0 0x100 0 0 0 []) (fun p => p.arg0.extractLsb' 0 8 = 0#8) :=
  ⟨⟨_, rfl, by decide⟩, ⟨_, rfl, by decide⟩⟩

/-- n = 30, j = 30; then n = 0, n = 31 and j = n + 1. -/
theorem witness_GfGenResult :
    let legal := fun p : Pend => 1 ≤ (p.arg0.extractLsb' 0 8).toNat ∧ (p.arg0.extractLsb' 0 8).toNat ≤ 30 ∧
      (p.arg0.extractLsb' 8 8).toNat ≤ (p.arg0.extractLsb' 0 8).toNat
    Has (ready 0x23 0 0 0x1E1E 0 0 0 []) legal ∧ Has (ready 0x23 0 0 0x0000 0 0 0 []) (fun p => ¬legal p) ∧
      Has (ready 0x23 0 0 0x001F 0 0 0 []) (fun p => ¬legal p) ∧ Has (ready 0x23 0 0 0x0807 0 0 0 []) (fun p => ¬legal p) :=
  ⟨⟨_, rfl, by decide⟩, ⟨_, rfl, by decide⟩, ⟨_, rfl, by decide⟩, ⟨_, rfl, by decide⟩⟩

/-- The last legal source and destination, then one past each, and both bad degrees. -/
theorem witness_RsBlockResult :
    let legal := fun p : Pend => 1 ≤ p.arg1.toNat / 256 % 256 ∧ p.arg1.toNat / 256 % 256 ≤ 30 ∧
      p.arg0.toNat % 4096 + p.arg1.toNat % 256 ≤ 4096 ∧ p.arg2.toNat % 4096 + p.arg1.toNat / 256 % 256 ≤ 4096
    Has (ready 0x24 0 0 0xFF0 0x1E10 0xFE2 0 []) legal ∧ Has (ready 0x24 0 0 0xFF1 0x1E10 0xFE2 0 []) (fun p => ¬legal p) ∧
      Has (ready 0x24 0 0 0xFF0 0x1E10 0xFE3 0 []) (fun p => ¬legal p) ∧
      Has (ready 0x24 0 0 0 0x0010 0 0 []) (fun p => ¬legal p) ∧ Has (ready 0x24 0 0 0 0x1F10 0 0 []) (fun p => ¬legal p) :=
  ⟨⟨_, rfl, by decide⟩, ⟨_, rfl, by decide⟩, ⟨_, rfl, by decide⟩, ⟨_, rfl, by decide⟩, ⟨_, rfl, by decide⟩⟩

/-- Every cell of the light region is FUNC_0. -/
theorem light_read (base k : Nat) (h : k < 441) : (light base).read (base + k) = 4#8 := by
  rw [light, Memory.read_writeRange_inside (by rwa [List.length_replicate]), List.getD_eq_getElem?_getD,
    List.getElem?_replicate, if_pos h, Option.getD_some]

theorem light_gridCell {r c : Nat} (hr : r < 21) (hc : c < 21) (s : State) (hs : s.mem = light 0x08000) :
    s.gridCell 1 r c = .func false := by
  have h := light_read 0x08000 (r * 21 + c) (by omega)
  rw [State.gridCell, gridAddr, hs, show size 1 = 21 from rfl, Nat.add_assoc, h]
  rfl

theorem light_bestCell {r c : Nat} (hr : r < 21) (hc : c < 21) (s : State) (hs : s.mem = light 0x10000) :
    s.bestCell 1 r c = .func false := by
  have h := light_read 0x10000 (r * 21 + c) (by omega)
  rw [State.bestCell, bestAddr, hs, show size 1 = 21 from rfl, Nat.add_assoc, h]
  rfl

theorem light_candidate {r c : Nat} (hr : r < 21) (hc : c < 21) (s : State) (hs : s.mem = light 0x08000) (lv m : Nat) :
    (s.candidateAt 1 lv m r c).isComplete = true := by
  unfold State.candidateAt
  split
  · rfl
  · rw [light_gridCell hr hc s hs]
    rfl

/-- A region cell of GRID with no variant; R335's and R402's check. -/
abbrev BadGrid (s : State) : Prop := ∃ r c, r < size 1 ∧ c < size 1 ∧ (s.gridCell 1 r c).isInvalid = true

theorem empty_not_bad (s : State) (h : s.mem = []) : ¬BadGrid s := by
  rintro ⟨r, c, _, _, hc⟩
  rw [State.gridCell, h] at hc
  cases hc

theorem light_not_bad (s : State) (h : s.mem = light 0x08000) : ¬BadGrid s := by
  rintro ⟨r, c, hr, hc, hb⟩
  rw [light_gridCell hr hc s h] at hb
  cases hb

/-- Version 0; code 6 at the first cell; F = 441 against 440; F = 441. -/
theorem witness_PlaceDataResult :
    Has (ready 0x31 0 0 0 0 0 0 []) (fun p => ¬p.VersionInRange) ∧
      (Has (ready 0x31 1 0 0 0 0 0 [(0x08000, 6#8)]) Pend.VersionInRange ∧ BadGrid (ready 0x31 1 0 0 0 0 0 [(0x08000, 6#8)])) ∧
      (Has (ready 0x31 1 0 0 0 0 440 []) (fun p => p.VersionInRange ∧
        (ready 0x31 1 0 0 0 0 440 []).countCells 1 Cell.isFree ≠ p.cwBits.toNat) ∧ ¬BadGrid (ready 0x31 1 0 0 0 0 440 [])) ∧
      (Has (ready 0x31 1 0 0 0 0 441 []) (fun p => p.VersionInRange ∧
        (ready 0x31 1 0 0 0 0 441 []).countCells 1 Cell.isFree = p.cwBits.toNat) ∧ ¬BadGrid (ready 0x31 1 0 0 0 0 441 [])) :=
  ⟨⟨_, rfl, by decide⟩, ⟨⟨_, rfl, by decide⟩, 0, 0, by decide, by decide, by decide⟩,
    ⟨⟨_, rfl, by decide, by decide +kernel⟩, empty_not_bad _ rfl⟩,
    ⟨⟨_, rfl, by decide, by decide +kernel⟩, empty_not_bad _ rfl⟩⟩

theorem witness_FreeCountResult :
    Has (ready 0x32 41 0 0 0 0 0 []) (fun p => ¬p.VersionInRange) ∧
      (Has (ready 0x32 1 0 0 0 0 0 [(0x08000, 7#8)]) Pend.VersionInRange ∧ BadGrid (ready 0x32 1 0 0 0 0 0 [(0x08000, 7#8)])) ∧
      (Has (ready 0x32 1 0 0 0 0 0 []) Pend.VersionInRange ∧ ¬BadGrid (ready 0x32 1 0 0 0 0 0 [])) :=
  ⟨⟨_, rfl, by decide⟩, ⟨⟨_, rfl, by decide⟩, 0, 0, by decide, by decide, by decide⟩,
    ⟨⟨_, rfl, by decide⟩, empty_not_bad _ rfl⟩⟩

/-- MASK_APPLY and MASK_SELECT: bad version, bad cell, incomplete, complete. -/
abbrev CandidateClauses : Prop :=
  Has (ready 0 0 0 0 0 0 0 []) (fun p => ¬p.VersionInRange) ∧
    (Has (ready 0 1 0 0 0 0 0 [(0x08000, 6#8)]) Pend.VersionInRange ∧ BadGrid (ready 0 1 0 0 0 0 0 [(0x08000, 6#8)])) ∧
    (Has (ready 0 1 0 0 0 0 0 []) Pend.VersionInRange ∧ ¬BadGrid (ready 0 1 0 0 0 0 0 []) ∧
      ((ready 0 1 0 0 0 0 0 []).candidateAt 1 0 0 0 0).isComplete = false) ∧
    (Has (ready 0 1 0 0 0 0 0 (light 0x08000)) Pend.VersionInRange ∧ ¬BadGrid (ready 0 1 0 0 0 0 0 (light 0x08000)) ∧
      ∀ r c, r < 21 → c < 21 → ((ready 0 1 0 0 0 0 0 (light 0x08000)).candidateAt 1 0 0 r c).isComplete = true)

theorem candidate_clauses : CandidateClauses :=
  ⟨⟨_, rfl, by decide⟩, ⟨⟨_, rfl, by decide⟩, 0, 0, by decide, by decide, by decide⟩,
    ⟨⟨_, rfl, by decide⟩, empty_not_bad _ rfl, rfl⟩,
    ⟨⟨_, rfl, by decide⟩, light_not_bad _ rfl, fun _ _ hr hc => light_candidate hr hc _ rfl 0 0⟩⟩

theorem witness_MaskApplyResult : CandidateClauses := candidate_clauses
theorem witness_MaskSelectResult : CandidateClauses := candidate_clauses

/-- Code 6; code 0; a region of codes 4. -/
theorem witness_MaskScoreResult :
    Has (ready 0x41 0 0 0 0 0 0 []) (fun p => ¬p.VersionInRange) ∧
      (Has (ready 0x41 1 0 0 0 0 0 [(0x10000, 6#8)]) Pend.VersionInRange ∧
        ((ready 0x41 1 0 0 0 0 0 [(0x10000, 6#8)]).bestCell 1 0 0).isInvalid = true) ∧
      (Has (ready 0x41 1 0 0 0 0 0 []) Pend.VersionInRange ∧ ∀ r c, (ready 0x41 1 0 0 0 0 0 []).bestCell 1 r c = .unfilled) ∧
      (Has (ready 0x41 1 0 0 0 0 0 (light 0x10000)) Pend.VersionInRange ∧
        ∀ r c, r < 21 → c < 21 → (ready 0x41 1 0 0 0 0 0 (light 0x10000)).bestCell 1 r c = .func false) :=
  ⟨⟨_, rfl, by decide⟩, ⟨⟨_, rfl, by decide⟩, by decide⟩, ⟨⟨_, rfl, by decide⟩, fun _ _ => rfl⟩,
    ⟨⟨_, rfl, by decide⟩, fun _ _ hr hc => light_bestCell hr hc _ rfl⟩⟩

theorem witness_EncodedSymbolCarriesTheMessage :
    Has (ready 0x50 1 1 0 0 0 0 []) Pend.VersionInRange ∧ (ready 0x50 1 1 0 0 0 0 []).status.err = false ∧
      ∃ t, exec .encode (ready 0x50 1 1 0 0 0 0 []) = .next t ∧ t.status.err = false :=
  ⟨⟨_, rfl, by decide⟩, rfl, _, rfl, by decide +kernel⟩

theorem witness_RescoringACommitChangesNothing :
    commits .maskApply = true ∧ (ready 0x40 1 0 0 0 0 0 (light 0x08000)).status.err = false ∧
      ∃ t, exec .maskApply (ready 0x40 1 0 0 0 0 0 (light 0x08000)) = .next t ∧ t.status.err = false :=
  ⟨rfl, rfl, _, rfl, by decide +kernel⟩

theorem witness_BadVersionIsCheckedFirst :
    Has (ready 0x50 0 0 0 0 0 0 []) (fun p => readsVersion .encode = true ∧ p.version.toNat = 0) ∧
      Has (ready 0x50 41 0 0 0 0 0 []) (fun p => 40 < p.version.toNat) :=
  ⟨⟨_, rfl, by decide⟩, ⟨_, rfl, by decide⟩⟩

theorem witness_AnErrorHasNoEffect :
    (ready 0x21 1 0 0 0 0 0 []).status.err = false ∧ ∃ t, exec .gfLog (ready 0x21 1 0 0 0 0 0 []) = .next t ∧ t.status.err = true :=
  ⟨rfl, _, rfl, rfl⟩

/-- The byte after RS_BLOCK's last one. -/
theorem witness_CommandsWriteOnlyTheirRanges :
    Has (ready 0x24 1 0 0 0x0A10 0 0 []) (fun p => footprint .rsBlock p 0x0200A = false ∧ footprint .rsBlock p 0x02009 = true) ∧
      ∃ t, exec .rsBlock (ready 0x24 1 0 0 0x0A10 0 0 []) = .next t :=
  ⟨⟨_, rfl, by decide⟩, _, rfl⟩

theorem witness_CommandsWriteOnlyTheirRegisters :
    (∃ t, exec .nop busy = .next t) ∧ writesCwBits .nop = false ∧ writesResults .nop = false ∧ commits .nop = false :=
  ⟨⟨_, rfl⟩, rfl, rfl, rfl⟩

theorem witness_OutValidEvents :
    (∃ t, exec .nop busy = .next t ∧ busy.status.err = false ∧ t.status.err = false) ∧
      (∃ t, exec .gfLog (ready 0x21 1 0 0 0 0 0 []) = .next t ∧ t.status.err = true) :=
  ⟨⟨_, rfl, rfl, rfl⟩, _, rfl, rfl⟩

/-- Memories that differ outside what RS_BLOCK reads. -/
theorem witness_CommandsReadOnlyTheirRanges :
    Has (ready 0x24 1 0 0 0x0A00 0 0 []) (fun p => ∀ a, readprint .rsBlock p a = true →
      Memory.read [(0x01000, 1#8)] a = (ready 0x24 1 0 0 0x0A00 0 0 []).mem.read a) := by
  refine ⟨_, rfl, fun a h => ?_⟩
  simp [readprint, Pend.src, Pend.len, setup, Buf.base] at h
  omega

theorem witness_FieldLaws : (255#8) ≠ 0#8 := by decide

theorem witness_GeneratorsAreProducts : 1 ≤ 30 ∧ 30 ≤ 30 := by decide

theorem witness_RemainderLaws : 1 ≤ 30 ∧ 30 ≤ 30 ∧ [1#8, 2#8].length = [3#8, 4#8].length := by decide

theorem witness_CodewordsHaveTheGeneratorsRoots : 1 ≤ 30 ∧ 30 ≤ 30 ∧ 29 < 30 := by decide

theorem witness_ScanOrder : 1 ≤ 40 ∧ 40 ≤ 40 ∧ 177 * 176 - 1 < size 40 * (size 40 - 1) := by decide

/-- Version 40: the last alignment pair, and the last version-information bit. -/
theorem witness_FunctionPatterns :
    (1 ≤ 40 ∧ 40 ≤ 40 ∧ 7 ≤ 40 ∧ 17 < 18) ∧ 170 ∈ align 40 ∧
      (170, 170) ∉ [(6, 6), (6, size 40 - 7), (size 40 - 7, 6)] ∧ funcCell 1 0 0 ≠ .unfilled := by decide

theorem witness_FreeCellsMatchTheStream : 1 ≤ 40 ∧ 40 ≤ 40 ∧ 3 < 4 ∧ 176 < size 40 := by decide

theorem witness_CompletenessIsTheSameForEveryMask : ∀ r c, (State.reset.gridCell 1 r c).isInvalid = false :=
  fun _ _ => rfl

theorem witness_PenaltyRulesByPosition :
    21 ≤ 21 ∧ (List.replicate 21 (List.replicate 21 true)).length = 21 ∧
      ∀ row ∈ List.replicate 21 (List.replicate 21 true), row.length = 21 := by decide

theorem witness_PenaltyBounds :
    177 ≤ 177 ∧ (List.replicate 177 (List.replicate 177 true)).length = 177 ∧
      ∀ row ∈ List.replicate 177 (List.replicate 177 true), row.length = 177 := by
  refine ⟨by decide, List.length_replicate, fun row h => ?_⟩
  rw [(List.mem_replicate.1 h).2, List.length_replicate]

theorem witness_StepKeepsMemoryAndStatusInvariants :
    State.reset.MemInv ∧ busy.StatusInv ∧ busy.PendInv ∧ ∃ t, step State.reset = .next t :=
  ⟨by decide, by decide, by decide, _, rfl⟩

/-- A committed candidate: mask 0 at level L of a version 1 grid of light function cells. -/
def committedGrid : Grid := candidate 21 0 0 (Grid.tabulate 21 fun _ _ => .func false)

/-- A state with OUT_VALID = 1. -/
def committed : State := (State.reset.writeGrid .best committedGrid).setOutValid true

theorem committed_output : committed.OutputInv := by
  have hread : committed.readGrid .best 1 = committedGrid :=
    State.readGrid_writeGrid_same State.reset .best (candidate_square 21 0 0 _)
  have hget : ∀ r c, r < 21 → c < 21 → committedGrid.get r c = candidateCell 21 0 0 (Grid.tabulate 21 fun _ _ => .func false) r c :=
    fun _ _ hr hc => Grid.get_tabulate _ hr hc
  refine fun _ => ⟨1, 0, by decide, by decide, ?_, ?_⟩
  · rw [hread, Grid.complete_iff (g := committedGrid) (candidate_square 21 0 0 _)]
    intro r c hr hc
    rw [hget r c hr hc, candidateCell]
    split
    · rfl
    · rw [Grid.get_tabulate _ hr hc]
      rfl
  · intro r c i hr hc hi
    rw [hread, hget r c hr hc, candidateCell, show formatBitAt 21 r c = some i from hi]
    rfl

/-- A state with OUT_VALID = 1 that meets the three invariants and steps on. -/
theorem witness_StepKeepsOutputInvariant :
    committed.MemInv ∧ committed.StatusInv ∧ committed.status.outValid = true ∧ committed.OutputInv ∧
      ∃ t, step committed = .next t :=
  ⟨⟨Memory.writeRange_wf (m := []) State.reset_mem_wf _ _, by decide +kernel⟩, by decide +kernel, rfl, committed_output, _, rfl⟩

end Sys2Proof.Tests
end

section
/-! SUPPORT. Every command's word decodes to the command (spec/30_encoding.md R150, R151). -/

namespace Sys2Proof

/-- The coding of every command, assembled from the statements of the single commands. -/
theorem Laws.Coding.statement : ∀ i : Instr, Statement i
  | .nop => nop
  | .capChars => capChars
  | .capGeom => capGeom
  | .capInfo => capInfo
  | .capCci => capCci
  | .capFmt => capFmt
  | .capVer => capVer
  | .gfMul => gfMul
  | .gfLog => gfLog
  | .gfExp => gfExp
  | .gfGen => gfGen
  | .rsBlock => rsBlock
  | .rsEncode => rsEncode
  | .interleave => interleave
  | .buildFunc => buildFunc
  | .placeData => placeData
  | .freeCount => freeCount
  | .maskApply => maskApply
  | .maskScore => maskScore
  | .maskSelect => maskSelect
  | .encode => encode

@[simp] theorem decode_encode (i : Instr) : decode (encode i) = .ok i :=
  let ⟨_, _, hdecode⟩ := Laws.Coding.statement i
  hdecode

end Sys2Proof
end

section
/-! SUPPORT. What each next move is, and what `step` answers for it (spec/00_scope.md R14). -/

namespace Sys2Proof.Machine

/-! ### The next move -/

theorem State.nextMove_cons {s : State} {e : Event} {rest : List Event} (h : s.script = e :: rest) :
    s.nextMove = { s with script := rest }.eventMove e := by
  rw [State.nextMove, h]

theorem State.engineMove_idle {s : State} (hp : s.pend = none) : s.engineMove = .moved s := by
  rw [State.engineMove, hp]

theorem State.engineMove_run {s : State} {p : Pend} {i : Instr} (hp : s.pend = some p) (hd : decode p.word = .ok i) :
    s.engineMove = .run i s := by
  simp only [State.engineMove, hp, hd]

/-! ### The step that takes it -/

theorem step_of_run {s t : State} {i : Instr} (h : s.nextMove = .run i t) : step s = exec i t := by
  rw [step, h]

theorem step_of_moved {s t : State} (h : s.nextMove = .moved t) : step s = .next t := by
  rw [step, h]

/-! ### A placed command word -/

/-- All 32 bits of a word are kept by its placement. -/
theorem State.withFetchWord_toNat (s : State) (w : Word) : s.withFetchWord 32 w.toNat = s.withCommand w := by
  rw [State.withFetchWord, Nat.mod_eq_of_lt w.isLt, BitVec.ofNat_toNat, BitVec.setWidth_eq]

/-- The engine's turn that `withCommand` puts first is taken on the launched state. -/
theorem State.nextMove_withCommand (s : State) (w : Word) : (s.withCommand w).nextMove = (s.launch w).engineMove :=
  State.nextMove_engine rfl

theorem step_withCommand_encode (s : State) (i : Instr) : step (s.withCommand (encode i)) = exec i (s.launch (encode i)) :=
  step_of_run <| by
    rw [State.nextMove_withCommand, State.engineMove_run (s.launch_pend (encode i)) (decode_encode i)]

/-! ### The obligation -/

/-- Settles O1: each clause names the next move its hypotheses determine, and `step` runs or takes that move. -/
theorem stepRunsDecodedCommand : Obligations.StepRunsDecodedCommand := by
  refine ⟨fun s p i rest hp hd => ⟨fun hs => ?engineRuns, fun hs => ?emptyRuns⟩,
    fun s rest hp => ⟨fun hs => ?engineIdles, fun hs => ?emptyIdles⟩,
    fun s a d draw rest => ⟨fun hs => ?reads, fun hs => ?writes, fun hs => ?resets⟩, fun s i => ?placed⟩
  case engineRuns =>
    exact step_of_run <| (State.nextMove_engine hs).trans (State.engineMove_run (p := p) hp hd)
  case emptyRuns =>
    exact step_of_run <| (State.nextMove_empty hs).trans (State.engineMove_run hp hd)
  case engineIdles =>
    exact step_of_moved <| (State.nextMove_engine hs).trans (State.engineMove_idle hp)
  case emptyIdles =>
    exact step_of_moved <| (State.nextMove_empty hs).trans (State.engineMove_idle hp)
  case reads | writes | resets =>
    exact step_of_moved (State.nextMove_cons hs)
  case placed =>
    rw [State.withFetchWord_toNat, step_withCommand_encode]

end Sys2Proof.Machine
end

section
/-! SUPPORT. What a command's rule can answer, said once for all 21 commands (spec/60_exceptions.md R509, R510), and the
inversion of `exec` and of `step`. -/

namespace Sys2Proof.Machine

/-! ### The rule of each command -/

/-- The rule by which `exec` completes each command. -/
def bodyOf : Instr → Pend → State → CmdResult
  | .nop => bodyNop
  | .capChars => bodyCapChars
  | .capGeom => bodyCapGeom
  | .capInfo => bodyCapInfo
  | .capCci => bodyCapCci
  | .capFmt => bodyCapFmt
  | .capVer => bodyCapVer
  | .gfMul => bodyGfMul
  | .gfLog => bodyGfLog
  | .gfExp => bodyGfExp
  | .gfGen => bodyGfGen
  | .rsBlock => bodyRsBlock
  | .rsEncode => bodyRsEncode
  | .interleave => bodyInterleave
  | .buildFunc => bodyBuildFunc
  | .placeData => bodyPlaceData
  | .freeCount => bodyFreeCount
  | .maskApply => bodyMaskApply
  | .maskScore => bodyMaskScore
  | .maskSelect => bodyMaskSelect
  | .encode => bodyEncode

theorem exec_eq_runCommand (i : Instr) (s : State) : exec i s = s.runCommand (bodyOf i) := by
  cases i <;> rfl

/-- A completion that answers a next state had a command pending and completed it by the command's rule. -/
theorem exec_next {i : Instr} {s t : State} (h : exec i s = .next t) :
    ∃ p, s.pend = some p ∧ t = (bodyOf i p s).complete :=
  State.runCommand_next (exec_eq_runCommand i s ▸ h)

/-! ### What a rule can answer -/

/-- Everything the rule of a command other than ENCODE can answer for operands `p` in state `s`: an error on the state as it
was, or the command's own effect. -/
inductive CommandResult (p : Pend) (s : State) : Instr → CmdResult → Prop
  | failed (i : Instr) (e : ErrorCode) : CommandResult p s i (.failed e s)
  | nop : CommandResult p s .nop (.done s)
  | results {i : Instr} (hi : writesResults i = true) (r0 r1 r2 r3 : Word) :
      CommandResult p s i (.done (s.setResults r0 r1 r2 r3))
  | rsBlock (h : blockArgsOk p.src p.len p.degree p.dst = true) :
      CommandResult p s .rsBlock (.done (s.writeBuf .ecc p.dst (rsRem (s.readBuf .msg p.src p.len) p.degree)))
  | rsEncode (hv : versionOk p.v = true) : CommandResult p s .rsEncode (.done (rsEncodeEffect (cap p.lv p.v) s))
  | interleave (hv : versionOk p.v = true) : CommandResult p s .interleave (.done (interleaveEffect (cap p.lv p.v) s))
  | buildFunc (hv : versionOk p.v = true) :
      CommandResult p s .buildFunc (.done ((s.writeGrid .grid (funcGrid p.v)).setOutValid false))
  | placeData (hv : versionOk p.v = true) :
      CommandResult p s .placeData (.done (placeEffect p.v p.cwBits.toNat (s.readGrid .grid p.v) s))
  | maskApply (hv : versionOk p.v = true) :
      CommandResult p s .maskApply (.done (s.commit (candidate (size p.v) p.lv p.mask (s.readGrid .grid p.v))
        (scoredCandidate (size p.v) p.lv (s.readGrid .grid p.v) p.mask)))
  | maskScore (x : Score) : CommandResult p s .maskScore (.done (s.setPenalties x))
  | maskSelect (hv : versionOk p.v = true) (x : Scored) (totals : Nat → Nat) :
      CommandResult p s .maskSelect
        (.done ((s.commit (candidate (size p.v) p.lv x.mask (s.readGrid .grid p.v)) x).setMaskTotals totals))

/-- A choice between two answers, each of them possible. -/
theorem CommandResult.ite {p : Pend} {s : State} {i : Instr} {c : Prop} [Decidable c] {k l : CmdResult}
    (hk : c → CommandResult p s i k) (hl : ¬c → CommandResult p s i l) : CommandResult p s i (if c then k else l) := by
  split
  · exact hk ‹_›
  · exact hl ‹_›

theorem CommandResult.checkVersion {p : Pend} {s : State} {i : Instr} {k : CmdResult}
    (hk : versionOk p.v = true → CommandResult p s i k) : CommandResult p s i (checkVersion p s k) :=
  .ite hk fun _ => .failed i _

theorem CommandResult.checkCandidate {p : Pend} {s : State} {i : Instr} {k : CmdResult} (g h : Grid)
    (hk : CommandResult p s i k) : CommandResult p s i (checkCandidate g h s k) :=
  .ite (fun _ => .failed i _) fun _ => .ite (fun _ => hk) fun _ => .failed i _

/-- The rule of every command but ENCODE answers one of the results above. -/
theorem bodyOf_result {i : Instr} (hi : i ≠ .encode) (p : Pend) (s : State) : CommandResult p s i (bodyOf i p s) := by
  cases i with
  | nop => exact .nop
  | capChars | capGeom | capInfo | capCci => exact .checkVersion fun _ => .results rfl _ _ _ _
  | capVer => exact .checkVersion fun _ => .ite (fun _ => .failed _ _) fun _ => .results rfl _ _ _ _
  | capFmt | gfMul | gfExp => exact .results rfl _ _ _ _
  | gfLog => exact .ite (fun _ => .failed _ _) fun _ => .results rfl _ _ _ _
  | gfGen => exact .ite (fun _ => .results rfl _ _ _ _) fun _ => .failed _ _
  | rsBlock => exact .ite (fun h => .rsBlock h) fun _ => .failed _ _
  | rsEncode => exact .checkVersion .rsEncode
  | interleave => exact .checkVersion .interleave
  | buildFunc => exact .checkVersion .buildFunc
  | placeData =>
    exact .checkVersion fun hv => .ite (fun _ => .failed _ _) fun _ => .ite (fun _ => .placeData hv) fun _ => .failed _ _
  | freeCount => exact .checkVersion fun _ => .ite (fun _ => .failed _ _) fun _ => .results rfl _ _ _ _
  | maskApply => exact .checkVersion fun hv => .checkCandidate _ _ (.maskApply hv)
  | maskScore =>
    exact .checkVersion fun _ => .ite (fun _ => .failed _ _) fun _ => .ite (fun _ => .maskScore _) fun _ => .failed _ _
  | maskSelect => exact .checkVersion fun hv => .checkCandidate _ _ (.maskSelect hv _ _)
  | encode => exact absurd rfl hi

/-! ### ENCODE's stages -/

@[simp] theorem CmdResult.state_done (s : State) : (CmdResult.done s).state = s := rfl

@[simp] theorem CmdResult.state_failed (e : ErrorCode) (s : State) : (CmdResult.failed e s).state = s := rfl

/-- A property kept by a stage and by what follows it is kept by both in a row. -/
theorem CmdResult.andThen_keeps {P : State → Prop} {r : CmdResult} {f : State → CmdResult} (hr : P r.state)
    (hf : ∀ t, P t → P (f t).state) : P (r.andThen f).state := by
  cases r with
  | done s => exact hf s hr
  | failed e s => exact hr

theorem CmdResult.andThen_eq_done {r : CmdResult} {f : State → CmdResult} {t : State} (h : r.andThen f = .done t) :
    ∃ u, r = .done u ∧ f u = .done t := by
  cases r with
  | done s => exact ⟨s, rfl, h⟩
  | failed e s => cases h

/-- What every command that leaves the RES registers alone keeps, ENCODE keeps: its stages are such commands (R441). -/
theorem bodyEncode_keeps {P : State → Prop} {s : State} (p : Pend) (hs : P s)
    (hstage : ∀ i q u r, writesResults i = false → CommandResult q u i r → P u → P r.state) :
    P (bodyEncode p s).state := by
  have stage {i : Instr} (hi : i ≠ .encode) (hres : writesResults i = false) (q : Pend) (u : State) (hu : P u) :
      P (bodyOf i q u).state :=
    hstage i q u _ hres (bodyOf_result hi q u) hu
  rcases checkVersion_cases p s (encodeStages p s) with ⟨_, hbody⟩ | ⟨_, hbody⟩
  · rw [bodyEncode, hbody]
    exact CmdResult.andThen_keeps
      (CmdResult.andThen_keeps
        (CmdResult.andThen_keeps
          (CmdResult.andThen_keeps (stage (i := .rsEncode) (by decide) rfl p s hs)
            fun u hu => stage (i := .interleave) (by decide) rfl p u hu)
          fun u hu => stage (i := .buildFunc) (by decide) rfl p u hu)
        fun u hu => stage (i := .placeData) (by decide) rfl { p with cwBits := u.cwBits } u hu)
      fun u hu => stage (i := .maskSelect) (by decide) rfl p u hu
  · rw [bodyEncode, hbody]
    exact hs

/-- ENCODE succeeds only by the success of its last stage, MASK_SELECT. -/
theorem bodyEncode_eq_done {p : Pend} {s t : State} (h : bodyEncode p s = .done t) :
    ∃ u, bodyOf .maskSelect p u = .done t := by
  rcases checkVersion_cases p s (encodeStages p s) with ⟨_, hbody⟩ | ⟨_, hbody⟩
  · rw [bodyEncode, hbody] at h
    obtain ⟨u, _, hu⟩ := CmdResult.andThen_eq_done h
    exact ⟨u, hu⟩
  · rw [bodyEncode, hbody] at h
    cases h

/-! ### What a step can do -/

/-- Everything one move can make of a state: a host transaction, a hardware reset, nothing, or a completion. -/
inductive Moved (s : State) : State → Prop
  | read (a : Addr) : Moved s (s.hostRead a)
  | write (a : Addr) (d : Word) : Moved s (s.hostWrite a d)
  | hardReset (draw : List Host.Cell) : Moved s (s.hardReset draw)
  | idle : Moved s s
  | command {i : Instr} {t : State} (h : exec i s = .next t) : Moved s t
  | illegal {p : Pend} (hp : s.pend = some p) : Moved s (s.completeErr .illegalCmd)

/-- `step` answers for a move as `exec` does for a command. -/
def Move.answer : Move → Host.Outcome State Fault Refusal
  | .run i t => exec i t
  | .moved t => .next t

theorem step_eq_answer (s : State) : step s = s.nextMove.answer := rfl

theorem State.engineMove_answer {s t : State} (h : s.engineMove.answer = .next t) : Moved s t := by
  rcases s.engineMove_cases with ⟨_, hmove⟩ | ⟨p, i, _, _, hmove⟩ | ⟨p, e, hp, _, hmove⟩
  · rw [hmove] at h
    cases h
    exact .idle
  · rw [hmove] at h
    exact .command h
  · rw [hmove] at h
    cases h
    exact .illegal hp

/-- A step takes at most one event off the script and then makes one move. -/
theorem step_moved {s t : State} (h : step s = .next t) : ∃ rest, Moved { s with script := rest } t := by
  rw [step_eq_answer] at h
  cases hs : s.script with
  | nil =>
    rw [State.nextMove_empty hs] at h
    exact ⟨s.script, State.engineMove_answer h⟩
  | cons e rest =>
    rw [State.nextMove_cons hs] at h
    refine ⟨rest, ?_⟩
    cases e with
    | read a => cases h; exact .read a
    | write a d => cases h; exact .write a d
    | engine => exact State.engineMove_answer h
    | hardReset draw => cases h; exact .hardReset draw

end Sys2Proof.Machine
end

section
/-! SUPPORT. The address map by range, and everything a host transaction can do to the state (spec/20_memory.md R101 to
R110). -/

namespace Sys2Proof.Machine

/-! ### Buffers and registers by address -/

/-- A buffer's window is the run of its entries from its base on (R101). -/
theorem bufAt_eq_some_iff {a : Nat} {b : Buf} : bufAt a = some b ↔ b.base ≤ a ∧ a < b.base + b.size := by
  cases b <;> simp only [bufAt, Buf.base, Buf.size, Config.bufBytes, Config.gridCells] <;> grind

theorem placeOf_eq_window_iff {a : Nat} {b : Buf} : placeOf a = .window b ↔ bufAt a = some b := by
  unfold placeOf
  split
  · next h => simp [h]
  · next h =>
    rw [h]
    split <;> simp

/-- A register stands at four times its place in the map, and only there. -/
theorem placeOf_eq_reg_iff {a : Nat} {r : Reg} : placeOf a = .reg r ↔ regMap[a / 4]? = some r := by
  unfold placeOf
  split
  · next b h =>
    have hbase : 28 ≤ a / 4 := by
      have := (bufAt_eq_some_iff.1 h).1
      cases b <;> simp only [Buf.base] at this <;> omega
    simp [List.getElem?_eq_none (l := regMap) hbase]
  · split <;> simp [*]

/-- CTRL is the map's second register. -/
theorem placeOf_eq_ctrl_iff {a : Nat} : placeOf a = .reg .ctrl ↔ a / 4 = 1 := by
  rw [placeOf_eq_reg_iff]
  constructor
  · intro h
    have hnodup : regMap.Nodup := by decide
    exact (List.getElem?_inj (List.getElem?_eq_some_iff.1 h).1 hnodup).1 (h.trans rfl)
  · intro h
    rw [h]
    rfl

/-- The aligned word of a window lies in the window whole. -/
theorem wordAddr_window_bounds {a : Addr} {b : Buf} (h : placeOf (wordAddr a) = .window b) :
    b.base ≤ wordAddr a ∧ wordAddr a + 4 ≤ b.base + b.size := by
  obtain ⟨hlo, hhi⟩ := bufAt_eq_some_iff.1 (placeOf_eq_window_iff.1 h)
  refine ⟨hlo, ?_⟩
  cases b <;> simp only [wordAddr, Buf.base, Buf.size, Config.bufBytes, Config.gridCells] at hlo hhi ⊢ <;> omega

/-! ### Transactions -/

theorem State.afterRead_cases (s : State) (a : Addr) : s.afterRead a = s ∨ s.afterRead a = s.lock := by
  unfold State.afterRead
  split
  · split
    · exact .inr rfl
    · exact .inl rfl
  · exact .inl rfl
  · exact .inl rfl

/-- Everything a host write can do, by what stands at its word address. -/
theorem State.hostWrite_cases (s : State) (a : Addr) (d : Word) :
    (∃ r, placeOf (wordAddr a) = .reg r ∧ s.hostWrite a d = s.writeReg d r) ∨
      (∃ b, placeOf (wordAddr a) = .window b ∧ s.busy = true ∧ s.hostWrite a d = s.lock) ∨
      (∃ b, placeOf (wordAddr a) = .window b ∧ s.busy = false ∧ s.hostWrite a d = s.windowStore b (wordAddr a) d) ∨
      (placeOf (wordAddr a) = .reserved ∧ s.hostWrite a d = s) := by
  unfold State.hostWrite
  cases hplace : placeOf (wordAddr a) with
  | reg r => exact .inl ⟨r, rfl, rfl⟩
  | window b =>
    cases hbusy : s.busy with
    | true => exact .inr (.inl ⟨b, rfl, rfl, rfl⟩)
    | false => exact .inr (.inr (.inl ⟨b, rfl, rfl, rfl⟩))
  | reserved => exact .inr (.inr (.inr ⟨rfl, rfl⟩))

theorem State.busy_eq_false_iff {s : State} : s.busy = false ↔ s.pend = none := by
  simp [State.busy]

/-- With no command pending a CMD write is a launch (R54). -/
theorem State.writeCmd_idle {s : State} (h : s.pend = none) (d : Word) : s.writeCmd d = s.launch d := by
  rw [State.writeCmd, if_neg (by simp [State.busy, h])]

theorem State.writeCmd_busy {s : State} (h : s.busy = true) (d : Word) :
    s.writeCmd d = { s with status := { s.status with overrun := true } } := by
  rw [State.writeCmd, if_pos h]

theorem State.writeCtrl_cases (s : State) (d : Word) :
    (d.getLsbD 31 = true ∧ s.writeCtrl d = s.softReset) ∨
      (d.getLsbD 31 = false ∧ s.writeCtrl d = { s with ctrl := ⟨d.getLsbD 0, d.getLsbD 1⟩ }) := by
  cases hd : d.getLsbD 31 with
  | true => exact .inl ⟨rfl, if_pos hd⟩
  | false => exact .inr ⟨rfl, if_neg (ne_true_of_eq_false hd)⟩

theorem State.windowStore_mem (s : State) (b : Buf) (a : Nat) (d : Word) :
    (s.windowStore b a d).mem = s.mem.writeRange a ((bytesOfWord d).map b.lane) := by
  unfold State.windowStore
  split <;> rfl

end Sys2Proof.Machine
end

section
/-! SUPPORT. The memory invariant: what the commands, the host and a draw write stays inside the windows, cells three bits
wide (spec/10_state.md R70 to R75). -/

namespace Sys2Proof.Machine

/-! ### Lengths of what commands write -/

@[simp] theorem length_xorInto (g d : List Byte) : (xorInto g d).length = d.length := by
  induction g generalizing d with
  | nil => rfl
  | cons x g ih =>
    cases d with
    | nil => rfl
    | cons y d => simp [xorInto, ih]

@[simp] theorem length_divStep (gen d : List Byte) : (divStep gen d).length = d.length - 1 := by
  cases d with
  | nil => rfl
  | cons x d =>
    rw [divStep, List.length_tail]
    split <;> simp

@[simp] theorem length_divLoop (gen : List Byte) (k : Nat) (d : List Byte) : (divLoop gen k d).length = d.length - k := by
  induction k generalizing d with
  | zero => rfl
  | succ k ih => rw [divLoop, ih, length_divStep, Nat.sub_sub, Nat.add_comm]

/-- A remainder of degree `n` has `n` codewords, whatever the message (R256). -/
@[simp] theorem length_rsRem (m : List Byte) (n : Nat) : (rsRem m n).length = n := by
  simp [rsRem]

@[simp] theorem length_splitBlocks (e : CapEntry) (msg : List Byte) :
    (splitBlocks e msg).length = e.g1Blocks + e.g2Blocks := by
  simp [splitBlocks]

@[simp] theorem length_encodeBlocks (e : CapEntry) (msg : List Byte) :
    (encodeBlocks e msg).length = (e.g1Blocks + e.g2Blocks) * e.ec := by
  simp [encodeBlocks, List.length_flatMap]

theorem length_composeStream_le (e : CapEntry) (msg ecc : List Byte) :
    (composeStream e msg ecc).length ≤ e.totalCW + 1 := by
  rw [composeStream, List.length_append]
  refine Nat.add_le_add (List.length_take_le _ _) ?_
  split <;> simp

/-- Every capacity row's error-correction bytes and its stream fit their buffers. -/
theorem cap_fits {lv v : Nat} (hlv : lv < 4) (hv : versionOk v = true) :
    ((cap lv v).g1Blocks + (cap lv v).g2Blocks) * (cap lv v).ec ≤ Config.bufBytes ∧
      (cap lv v).totalCW + 1 ≤ Config.bufBytes := by
  have rows : ∀ lv < 4, ∀ v < 41, ((cap lv v).g1Blocks + (cap lv v).g2Blocks) * (cap lv v).ec ≤ Config.bufBytes ∧
      (cap lv v).totalCW + 1 ≤ Config.bufBytes := by decide
  exact rows lv hlv v (Nat.lt_succ_of_le ((versionOk_iff v).1 hv).2)

/-- Every symbol's region fits the cell buffers. -/
theorem size_sq_le {v : Nat} (hv : versionOk v = true) : size v * size v ≤ Config.gridCells := by
  have hsize : size v ≤ 177 := by
    have := (versionOk_iff v).1 hv
    unfold size
    omega
  exact (Nat.mul_le_mul hsize hsize).trans (by decide)

/-! ### Lanes -/

@[simp] theorem Buf.lane_lane (b : Buf) (x : Byte) : b.lane (b.lane x) = b.lane x := by
  unfold Buf.lane
  split
  · rw [BitVec.and_assoc, BitVec.and_self]
  · rfl

/-- A byte buffer keeps a byte whole (R106). -/
theorem Buf.lane_of_bytes {b : Buf} (hb : b.isCells = false) (x : Byte) : b.lane x = x := by
  simp [Buf.lane, hb]

/-- A cell's code has three bits, all any buffer keeps. -/
theorem Buf.lane_toByte (b : Buf) (x : Cell) : b.lane x.toByte = x.toByte := by
  have hcode : x.toByte &&& 7#8 = x.toByte := by
    cases x with
    | unfilled | reserved => rfl
    | data v | func v | invalid v => cases v <;> rfl
  unfold Buf.lane
  split
  · exact hcode
  · rfl

/-! ### The invariant of the buffers' contents -/

/-- `State.MemInv`, said of the contents alone. -/
abbrev Memory.Legal (m : Memory) : Prop := m.wf ∧ ∀ c ∈ m, entryOk c = true

theorem entryOk_of_window {b : Buf} {c : Host.Cell} (hbuf : bufAt c.1 = some b) (hlane : b.lane c.2 = c.2) :
    entryOk c = true := by
  simp [entryOk, hbuf, hlane]

/-- A write of entries as wide as the buffer's, inside its window, keeps the buffers legal. -/
theorem Memory.Legal.writeRange {m : Memory} (hm : m.Legal) {b : Buf} {a : Nat} {bs : List Byte} (hlo : b.base ≤ a)
    (hhi : a + bs.length ≤ b.base + b.size) (hlane : ∀ x ∈ bs, b.lane x = x) : (m.writeRange a bs).Legal := by
  refine ⟨Memory.writeRange_wf hm.1 a bs, fun c hc => ?_⟩
  rcases Memory.mem_writeRange hc with hold | hnew
  · exact hm.2 c hold
  · have hbounds := Memory.listed_bounds hnew
    exact entryOk_of_window (bufAt_eq_some_iff.2 ⟨by omega, by omega⟩) (hlane _ (Memory.mem_listed hnew))

theorem Memory.Legal.drawOne {m : Memory} (hm : m.Legal) (c : Host.Cell) : (m.drawOne c).Legal := by
  unfold Memory.drawOne
  split
  · next b hb =>
    obtain ⟨hlo, hhi⟩ := bufAt_eq_some_iff.1 hb
    exact hm.writeRange hlo hhi (by simp)
  · exact hm

theorem Memory.Legal.drawn {m : Memory} (hm : m.Legal) (draw : List Host.Cell) : (m.drawn draw).Legal := by
  induction draw generalizing m with
  | nil => exact hm
  | cons c draw ih => exact ih (hm.drawOne c)

theorem State.MemInv.writeBytes {s : State} (hs : s.MemInv) {b : Buf} (hb : b.isCells = false) {off : Nat}
    {bs : List Byte} (hlen : off + bs.length ≤ b.size) : (s.writeBuf b off bs).MemInv :=
  Memory.Legal.writeRange hs (Nat.le_add_right _ _) (by omega) fun x _ => Buf.lane_of_bytes hb x

theorem State.MemInv.writeGrid {s : State} (hs : s.MemInv) {b : Buf} {g : Grid} {n : Nat} (hg : g.Square n)
    (hn : n * n ≤ b.size) : (s.writeGrid b g).MemInv := by
  refine Memory.Legal.writeRange hs (Nat.le_add_right _ _) ?_ fun x hx => ?_
  · rw [Grid.length_toBytes hg]
    omega
  · obtain ⟨row, _, hrow⟩ := List.mem_flatMap.1 hx
    obtain ⟨cell, _, rfl⟩ := List.mem_map.1 hrow
    exact b.lane_toByte cell

/-! ### Commands keep it -/

theorem Pend.lv_lt (p : Pend) : p.lv < 4 := p.level.isLt

theorem CommandResult.keeps_memInv {p : Pend} {s : State} {i : Instr} {r : CmdResult} (h : CommandResult p s i r)
    (hs : s.MemInv) : r.state.MemInv := by
  cases h with
  | failed | nop | results | maskScore => exact hs
  | rsBlock h =>
    have hfit : p.dst + p.degree ≤ Config.bufBytes := by
      simp only [blockArgsOk, Bool.and_eq_true, Nat.ble_eq] at h
      obtain ⟨_, _, hdst⟩ := h
      exact hdst
    exact hs.writeBytes (b := .ecc) rfl (by rw [length_rsRem]; exact hfit)
  | rsEncode hv =>
    exact hs.writeBytes (b := .ecc) rfl (by rw [Nat.zero_add, length_encodeBlocks]; exact (cap_fits p.lv_lt hv).1)
  | interleave hv =>
    have hfit := (length_composeStream_le (cap p.lv p.v) (s.readBuf .msg 0 (cap p.lv p.v).dataCW)
      (s.readBuf .ecc 0 ((cap p.lv p.v).blocks * (cap p.lv p.v).ec))).trans (cap_fits p.lv_lt hv).2
    exact hs.writeBytes (b := .cw) rfl ((Nat.zero_add _).trans_le hfit)
  | buildFunc hv => exact hs.writeGrid (b := .grid) (funcGrid_square p.v) (size_sq_le hv)
  | placeData hv =>
    exact hs.writeGrid (b := .grid) (placeBits_square _ _ (s.readGrid_square .grid p.v)) (size_sq_le hv)
  | maskApply hv | maskSelect hv => exact hs.writeGrid (b := .best) (candidate_square _ _ _ _) (size_sq_le hv)

theorem bodyOf_keeps_memInv (i : Instr) (p : Pend) {s : State} (hs : s.MemInv) : (bodyOf i p s).state.MemInv := by
  by_cases hi : i = .encode
  · subst hi
    exact bodyEncode_keeps p hs fun _ _ _ _ _ hr hu => hr.keeps_memInv hu
  · exact (bodyOf_result hi p s).keeps_memInv hs

theorem exec_keeps_memInv {i : Instr} {s t : State} (h : exec i s = .next t) (hs : s.MemInv) : t.MemInv := by
  obtain ⟨p, _, rfl⟩ := exec_next h
  rw [State.MemInv, CmdResult.complete_mem]
  exact bodyOf_keeps_memInv i p hs

/-! ### The host keeps it -/

theorem State.hostRead_mem (s : State) (a : Addr) : (s.hostRead a).mem = s.mem := by
  rcases s.afterRead_cases a with h | h <;> simp [State.hostRead, h]

/-- A register write changes no buffer, a soft reset included (R553). -/
theorem State.writeReg_mem (s : State) (d : Word) (r : Reg) : (s.writeReg d r).mem = s.mem := by
  cases r with
  | ctrl => rcases s.writeCtrl_cases d with ⟨_, h⟩ | ⟨_, h⟩ <;> simp [State.writeReg, h]
  | cmd =>
    show (s.writeCmd d).mem = s.mem
    unfold State.writeCmd
    split <;> rfl
  | _ => rfl

theorem State.MemInv.hostWrite {s : State} (hs : s.MemInv) (a : Addr) (d : Word) : (s.hostWrite a d).MemInv := by
  rcases s.hostWrite_cases a d with ⟨r, _, h⟩ | ⟨b, _, _, h⟩ | ⟨b, hplace, _, h⟩ | ⟨_, h⟩
  · rwa [h, State.MemInv, State.writeReg_mem]
  · rwa [h]
  · obtain ⟨hlo, hhi⟩ := wordAddr_window_bounds hplace
    rw [h, State.MemInv, State.windowStore_mem]
    exact Memory.Legal.writeRange hs hlo (by simpa [bytesOfWord] using hhi) (by simp [bytesOfWord])
  · rwa [h]

theorem Moved.keeps_memInv {s t : State} (h : Moved s t) (hs : s.MemInv) : t.MemInv := by
  cases h with
  | read a => rwa [State.MemInv, State.hostRead_mem]
  | write a d => exact hs.hostWrite a d
  | hardReset draw => exact Memory.Legal.drawn hs draw
  | idle | illegal => exact hs
  | command h => exact exec_keeps_memInv h hs

end Sys2Proof.Machine
end

section
/-! SUPPORT. What every command leaves unchanged (spec/10_state.md R58 to R63). -/

namespace Sys2Proof.Machine

/-! ### The frame of a command's rule -/

/-- `t` differs from `s` only where the rule of command `i` may write: memory, OUT_VALID of STATUS, and the registers the
spec names for `i`. -/
structure CommandFrame (i : Instr) (s t : State) : Prop where
  ctrl : t.ctrl = s.ctrl := by rfl
  status : t.status = { s.status with outValid := t.status.outValid } := by rfl
  lastCmd : t.lastCmd = s.lastCmd := by rfl
  version : t.version = s.version := by rfl
  level : t.level = s.level := by rfl
  arg0 : t.arg0 = s.arg0 := by rfl
  arg1 : t.arg1 = s.arg1 := by rfl
  arg2 : t.arg2 = s.arg2 := by rfl
  script : t.script = s.script := by rfl
  hostLog : t.hostLog = s.hostLog := by rfl
  cwBits : writesCwBits i = false → t.cwBits = s.cwBits := by exact fun _ => rfl
  res : writesResults i = false → t.res = s.res := by exact fun _ => rfl
  bestMask : commits i = false → t.bestMask = s.bestMask := by exact fun _ => rfl
  pen : commits i = false → i ≠ .maskScore → t.pen = s.pen := by exact fun _ _ => rfl
  penM : i ≠ .maskSelect → i ≠ .encode → t.penM = s.penM := by exact fun _ _ => rfl
  outValid : commits i = false → i ≠ .buildFunc → i ≠ .placeData → t.status.outValid = s.status.outValid := by
    exact fun _ _ _ => rfl

theorem CommandFrame.refl (i : Instr) (s : State) : CommandFrame i s s := {}

/-- Only the fields named here are not left as they were. -/
theorem CommandResult.frame {p : Pend} {s : State} {i : Instr} {r : CmdResult} (h : CommandResult p s i r) :
    CommandFrame i s r.state := by
  cases h with
  | failed | nop => exact .refl _ _
  | results hi => exact { res := fun hn => absurd (hi.symm.trans hn) (by decide) }
  | rsBlock | rsEncode => exact {}
  | interleave => exact { cwBits := nofun }
  | buildFunc => exact { outValid := fun _ hn => absurd rfl hn }
  | placeData => exact { outValid := fun _ _ hn => absurd rfl hn }
  | maskScore => exact { pen := fun _ hn => absurd rfl hn }
  | maskApply => exact { bestMask := nofun, pen := nofun, outValid := nofun }
  | maskSelect => exact { bestMask := nofun, pen := nofun, outValid := nofun, penM := fun hn => absurd rfl hn }

/-- ENCODE may write whatever its stages may, and RES is not among it. -/
theorem CommandFrame.encode_trans {i : Instr} {s t u : State} (hst : CommandFrame .encode s t)
    (hi : writesResults i = false) (htu : CommandFrame i t u) : CommandFrame .encode s u where
  ctrl := htu.ctrl.trans hst.ctrl
  status := by rw [htu.status, hst.status]
  lastCmd := htu.lastCmd.trans hst.lastCmd
  version := htu.version.trans hst.version
  level := htu.level.trans hst.level
  arg0 := htu.arg0.trans hst.arg0
  arg1 := htu.arg1.trans hst.arg1
  arg2 := htu.arg2.trans hst.arg2
  script := htu.script.trans hst.script
  hostLog := htu.hostLog.trans hst.hostLog
  cwBits := nofun
  res := fun h => (htu.res hi).trans (hst.res h)
  bestMask := nofun
  pen := nofun
  penM := fun _ hn => absurd rfl hn
  outValid := nofun

theorem bodyOf_frame (i : Instr) (p : Pend) (s : State) : CommandFrame i s (bodyOf i p s).state := by
  by_cases hi : i = .encode
  · subst hi
    exact bodyEncode_keeps p (.refl _ s) fun _ _ _ _ hres hr hu => hu.encode_trans hres hr.frame
  · exact (bodyOf_result hi p s).frame

/-! ### The registers a command writes -/

/-- Settles O45: the frame of the command's rule, and completion touches no more than STATUS and PEND. -/
theorem commandsWriteOnlyTheirRegisters : Obligations.CommandsWriteOnlyTheirRegisters := by
  intro i s t h
  obtain ⟨p, _, rfl⟩ := exec_next h
  have hframe := bodyOf_frame i p s
  have hoverrun : (bodyOf i p s).state.status.overrun = s.status.overrun := by rw [hframe.status]
  have hlocked : (bodyOf i p s).state.status.locked = s.status.locked := by rw [hframe.status]
  cases hr : bodyOf i p s with
  | done u | failed e u =>
    rw [hr] at hframe hoverrun hlocked
    exact ⟨hframe.ctrl, hframe.lastCmd, hframe.version, hframe.level, hframe.arg0, hframe.arg1, hframe.arg2,
      hframe.script, hframe.hostLog, rfl, hoverrun, hlocked, hframe.cwBits, hframe.res, hframe.bestMask, hframe.pen,
      hframe.penM, hframe.outValid⟩

end Sys2Proof.Machine
end

section
/-! SUPPORT. The consistency of STATUS and PEND (spec/30_encoding.md R152, spec/60_exceptions.md R501, R510, R531). -/

namespace Sys2Proof.Machine

/-! ### Completions -/

theorem ErrorCode.code_bounds (e : ErrorCode) : 1 ≤ e.code.toNat ∧ e.code.toNat ≤ 7 := by
  cases e <;> decide

/-- A completion of a pending command leaves STATUS consistent, if the rule touched no more of it than OUT_VALID. -/
theorem CmdResult.complete_statusInv {r : CmdResult} {s : State} (hs : s.StatusInv) (hbusy : s.busy = true)
    (hr : r.state.status = { s.status with outValid := r.state.status.outValid }) : r.complete.StatusInv := by
  obtain ⟨_, hcode, _, hclear⟩ := hs
  obtain ⟨hdone, herr⟩ := hclear hbusy
  have hrdone : r.state.status.done = false := by rw [hr]; exact hdone
  have hrerr : r.state.status.err = false := by rw [hr]; exact herr
  have hrcode : r.state.status.errCode = 0#8 := by rw [hr]; exact hcode herr
  cases r with
  | done u =>
    refine ⟨?_, fun _ => hrcode, fun h => ?_, nofun⟩
    · simpa using hrerr
    · exact absurd (h.symm.trans hrerr) (by decide)
  | failed e u =>
    refine ⟨?_, nofun, fun _ => e.code_bounds, nofun⟩
    simpa using hrdone

theorem State.PendInv.of_idle {s : State} (h : s.pend = none) : s.PendInv := by
  simp [State.PendInv, h]

theorem exec_keeps_statusInv {i : Instr} {s t : State} (h : exec i s = .next t) (hs : s.StatusInv) :
    t.StatusInv ∧ t.PendInv := by
  obtain ⟨p, hp, rfl⟩ := exec_next h
  exact ⟨CmdResult.complete_statusInv hs (by simp [State.busy, hp]) (bodyOf_frame i p s).status,
    .of_idle (CmdResult.complete_pend _)⟩

/-! ### The host's writes and the step -/

/-- A STATUS write clears ERR and ERR_CODE together, so STATUS stays consistent (R53). -/
theorem State.StatusInv.clearedBy {s : State} (hs : s.StatusInv) (d : Word) :
    { s with status := s.status.clearedBy d }.StatusInv := by
  obtain ⟨hboth, hcode, hrange, hbusy⟩ := hs
  have hbusy' : s.busy = true → (s.status.done && !d.getLsbD 1) = false := fun h => by simp [(hbusy h).1]
  simp only [State.StatusInv, Status.clearedBy]
  cases d.getLsbD 2 with
  | true => exact ⟨by simp, fun _ => rfl, by simp, fun h => ⟨hbusy' h, by simp⟩⟩
  | false =>
    simp only [Bool.not_false, Bool.and_true]
    refine ⟨?_, hcode, hrange, fun h => ⟨hbusy' h, (hbusy h).2⟩⟩
    rw [Bool.and_right_comm, hboth, Bool.false_and]

theorem State.launch_statusInv (s : State) (w : Word) : (s.launch w).StatusInv :=
  ⟨rfl, fun _ => rfl, nofun, fun _ => ⟨rfl, rfl⟩⟩

theorem State.launch_pendInv (s : State) (w : Word) : (s.launch w).PendInv := by
  simp [State.PendInv]

theorem State.softReset_statusInv (s : State) : s.softReset.StatusInv := by
  simp [State.StatusInv, State.busy, State.reset, Status.reset]

/-- The registers a host writes beside CTRL, STATUS and CMD are no part of the two invariants. -/
theorem State.writeReg_keeps_statusInv {s : State} (hs : s.StatusInv) (hp : s.PendInv) (d : Word) (r : Reg) :
    (s.writeReg d r).StatusInv ∧ (s.writeReg d r).PendInv := by
  cases r with
  | ctrl =>
    show (s.writeCtrl d).StatusInv ∧ (s.writeCtrl d).PendInv
    rcases s.writeCtrl_cases d with ⟨_, h⟩ | ⟨_, h⟩ <;> rw [h]
    · exact ⟨s.softReset_statusInv, .of_idle rfl⟩
    · exact ⟨hs, hp⟩
  | status => exact ⟨hs.clearedBy d, hp⟩
  | cmd =>
    show (s.writeCmd d).StatusInv ∧ (s.writeCmd d).PendInv
    cases hbusy : s.busy with
    | true =>
      rw [State.writeCmd_busy hbusy]
      exact ⟨hs, hp⟩
    | false =>
      rw [State.writeCmd_idle (State.busy_eq_false_iff.1 hbusy)]
      exact ⟨s.launch_statusInv d, s.launch_pendInv d⟩
  | _ => exact ⟨hs, hp⟩

theorem State.hostWrite_keeps_statusInv {s : State} (hs : s.StatusInv) (hp : s.PendInv) (a : Addr) (d : Word) :
    (s.hostWrite a d).StatusInv ∧ (s.hostWrite a d).PendInv := by
  rcases s.hostWrite_cases a d with ⟨r, _, h⟩ | ⟨b, _, _, h⟩ | ⟨b, _, _, h⟩ | ⟨_, h⟩ <;> rw [h]
  · exact State.writeReg_keeps_statusInv hs hp d r
  · exact ⟨hs, hp⟩
  · unfold State.windowStore
    split <;> exact ⟨hs, hp⟩
  · exact ⟨hs, hp⟩

theorem Moved.keeps_statusInv {s t : State} (h : Moved s t) (hs : s.StatusInv) (hp : s.PendInv) :
    t.StatusInv ∧ t.PendInv := by
  cases h with
  | read a =>
    unfold State.hostRead
    rcases s.afterRead_cases a with h | h <;> rw [h] <;> exact ⟨hs, hp⟩
  | write a d => exact State.hostWrite_keeps_statusInv hs hp a d
  | hardReset draw => exact ⟨s.softReset_statusInv, .of_idle rfl⟩
  | idle => exact ⟨hs, hp⟩
  | command h => exact exec_keeps_statusInv h hs
  | illegal hpend =>
    exact ⟨CmdResult.complete_statusInv (r := .failed .illegalCmd s) hs (by simp [State.busy, hpend]) rfl, .of_idle rfl⟩

/-- Settles O58: neither invariant speaks of the script, and every move keeps both. -/
theorem stepKeepsMemoryAndStatusInvariants : Obligations.StepKeepsMemoryAndStatusInvariants := by
  refine ⟨fun s t hs h => ?memory, fun s t hs hp h => ?status⟩ <;> obtain ⟨rest, hmoved⟩ := step_moved h
  case memory => exact hmoved.keeps_memInv hs
  case status => exact hmoved.keeps_statusInv hs hp

end Sys2Proof.Machine
end

section
/-! SUPPORT. What sets and what clears OUT_VALID (spec/10_state.md R79). -/

namespace Sys2Proof.Machine

/-! ### Completions -/

/-- A rule leaves ERR alone; only the completion after it sets it. -/
theorem bodyOf_err (i : Instr) (p : Pend) (s : State) : (bodyOf i p s).state.status.err = s.status.err := by
  rw [(bodyOf_frame i p s).status]

/-- No command writes both the RES registers and the committed matrix. -/
theorem commits_of_writesResults {i : Instr} (h : writesResults i = true) : commits i = false := by
  cases i with
  | maskApply | maskSelect | encode => cases h
  | _ => rfl

/-- A rule that commits leaves OUT_VALID 1, and BUILD_FUNC and PLACE_DATA leave it 0, where they succeed (R79). -/
theorem CommandResult.outValid_done {p : Pend} {s t : State} {i : Instr} (h : CommandResult p s i (.done t)) :
    (commits i = true → t.status.outValid = true) ∧
      (i = .buildFunc ∨ i = .placeData → t.status.outValid = false) := by
  cases h with
  | results hi =>
    refine ⟨fun hc => ?_, by rintro (rfl | rfl) <;> cases hi⟩
    exact absurd (hc.symm.trans (commits_of_writesResults hi)) (by decide)
  | maskApply | maskSelect => exact ⟨fun _ => rfl, by simp⟩
  | buildFunc | placeData => exact ⟨nofun, fun _ => rfl⟩
  | nop | rsBlock | rsEncode | interleave | maskScore => exact ⟨nofun, by simp⟩

theorem bodyOf_outValid_done {i : Instr} {p : Pend} {s t : State} (h : bodyOf i p s = .done t) :
    (commits i = true → t.status.outValid = true) ∧
      (i = .buildFunc ∨ i = .placeData → t.status.outValid = false) := by
  by_cases hi : i = .encode
  · subst hi
    obtain ⟨u, hu⟩ := bodyEncode_eq_done h
    have hselect := bodyOf_result (i := .maskSelect) (by decide) p u
    rw [hu] at hselect
    exact ⟨fun _ => hselect.outValid_done.1 rfl, by simp⟩
  · have hresult := bodyOf_result hi p s
    rw [h] at hresult
    exact hresult.outValid_done

theorem exec_outValid_of_ok {i : Instr} {s t : State} (h : exec i s = .next t)
    (ht : t.status.err = false) : t.status.outValid =
      if commits i then true else if i = .buildFunc ∨ i = .placeData then false else s.status.outValid := by
  obtain ⟨p, _, rfl⟩ := exec_next h
  cases hr : bodyOf i p s with
  | failed e u => rw [hr] at ht; cases ht
  | done u =>
    obtain ⟨hset, hclear⟩ := bodyOf_outValid_done hr
    have hframe := bodyOf_frame i p s
    rw [hr] at hframe
    split_ifs with hc hi
    · exact hset hc
    · exact hclear hi
    · obtain ⟨hb, hp⟩ := not_or.1 hi
      exact hframe.outValid (by simpa using hc) hb hp

theorem exec_outValid_of_err {i : Instr} {s t : State} (hi : i ≠ .encode) (hs : s.status.err = false)
    (h : exec i s = .next t) (ht : t.status.err = true) : t.status.outValid = s.status.outValid := by
  obtain ⟨p, _, rfl⟩ := exec_next h
  have herr := (bodyOf_err i p s).trans hs
  have hresult := bodyOf_result hi p s
  generalize bodyOf i p s = r at hresult herr ht ⊢
  cases r with
  | failed e u => cases hresult; rfl
  | done u => exact absurd (ht.symm.trans herr) (by decide)

/-! ### The host -/

/-- Of all register writes only CTRL's soft reset changes OUT_VALID. -/
theorem State.writeReg_outValid (s : State) (d : Word) (r : Reg) : (s.writeReg d r).status.outValid =
    if r = .ctrl ∧ d.getLsbD 31 = true then false else s.status.outValid := by
  cases r with
  | ctrl =>
    rcases s.writeCtrl_cases d with ⟨hd, h⟩ | ⟨hd, h⟩
    · rw [if_pos ⟨rfl, hd⟩, State.writeReg, h]
      rfl
    · rw [if_neg fun hc => absurd (hd.symm.trans hc.2) (by decide), State.writeReg, h]
  | cmd =>
    rw [if_neg (by simp), State.writeReg, State.writeCmd]
    split <;> rfl
  | _ => rfl

theorem State.windowStore_outValid (s : State) (b : Buf) (a : Nat) (d : Word) :
    (s.windowStore b a d).status.outValid = if b.isCells then false else s.status.outValid := by
  unfold State.windowStore
  split <;> rfl

/-- The GRID and BEST windows fill 0x08000 to 0x17FFF (R101). -/
theorem cells_window_iff {a : Addr} {b : Buf} (h : placeOf (wordAddr a) = .window b) :
    b.isCells = true ↔ 0x08000 ≤ a.toNat ∧ a.toNat ≤ 0x17FFF := by
  obtain ⟨hlo, hhi⟩ := bufAt_eq_some_iff.1 (placeOf_eq_window_iff.1 h)
  cases b <;> simp only [wordAddr, Buf.base, Buf.size, Config.bufBytes, Config.gridCells, Buf.isCells] at hlo hhi ⊢ <;>
    grind

theorem window_of_cells_range {a : Addr} (h : 0x08000 ≤ a.toNat ∧ a.toNat ≤ 0x17FFF) :
    ∃ b, placeOf (wordAddr a) = .window b := by
  by_cases hgrid : a.toNat < 0x10000
  · exact ⟨.grid, placeOf_eq_window_iff.2 <| bufAt_eq_some_iff.2 <| by
      simp only [wordAddr, Buf.base, Buf.size, Config.gridCells]; omega⟩
  · exact ⟨.best, placeOf_eq_window_iff.2 <| bufAt_eq_some_iff.2 <| by
      simp only [wordAddr, Buf.base, Buf.size, Config.gridCells]; omega⟩

theorem State.hostWrite_outValid (s : State) (a : Addr) (d : Word) : (s.hostWrite a d).status.outValid =
    if s.pend = none ∧ 0x08000 ≤ a.toNat ∧ a.toNat ≤ 0x17FFF then false
    else if a.toNat / 4 = 1 ∧ d.getLsbD 31 = true then false
    else s.status.outValid := by
  have hctrl : placeOf (wordAddr a) = .reg .ctrl ↔ a.toNat / 4 = 1 := by
    rw [placeOf_eq_ctrl_iff, wordAddr, Nat.mul_div_cancel _ (by decide)]
  simp only [← hctrl]
  have notCells {x : Place} (hx : placeOf (wordAddr a) = x) (hne : ∀ b, x ≠ .window b) :
      ¬(0x08000 ≤ a.toNat ∧ a.toNat ≤ 0x17FFF) := fun hrange =>
    (window_of_cells_range hrange).elim fun b hb => hne b (hx.symm.trans hb)
  rcases s.hostWrite_cases a d with ⟨r, hplace, h⟩ | ⟨b, hplace, hbusy, h⟩ | ⟨b, hplace, hidle, h⟩ | ⟨hplace, h⟩
  · simp [h, s.writeReg_outValid, hplace, notCells hplace nofun]
  · have hpend : s.pend ≠ none := fun hp => by simp [State.busy, hp] at hbusy
    simp [h, hplace, hpend]
  · have hpend := State.busy_eq_false_iff.1 hidle
    simp [h, hplace, hpend, State.windowStore_outValid, ← cells_window_iff hplace]
  · simp [h, hplace, notCells hplace nofun]

theorem State.hostRead_outValid (s : State) (a : Addr) : (s.hostRead a).status.outValid = s.status.outValid := by
  rcases s.afterRead_cases a with h | h <;> simp [State.hostRead, h]

/-- Settles O46: the completions by their rules, the host's writes by what stands at their address. -/
theorem outValidEvents : Obligations.OutValidEvents :=
  ⟨fun _ _ _ _ h ht => exec_outValid_of_ok h ht, fun _ _ _ hi hs h ht => exec_outValid_of_err hi hs h ht,
    State.hostWrite_outValid, State.hostRead_outValid, fun _ _ => rfl⟩

end Sys2Proof.Machine
end

section
/-! SUPPORT. The registers as a host reads them, and the launch by CMD (spec/10_state.md R50 to R62, spec/30_encoding.md
R152). -/

namespace Sys2Proof.Machine

/-- Settles O5: CMD stands at 0x0000C, and its write while idle is the launch. -/
theorem cmdWriteLaunches : Obligations.CmdWriteLaunches := by
  intro s w hp
  have hlaunch : s.hostWrite 0x0000C#17 w = s.launch w := State.writeCmd_idle hp w
  rw [hlaunch]
  exact ⟨rfl, rfl⟩

theorem Ctrl.getLsbD_toWord (c : Ctrl) (k : Nat) : c.toWord.getLsbD k =
    if k = 0 then c.ieDone else if k = 1 then c.ieErr else false := by
  simp only [Ctrl.toWord, BitVec.getLsbD_append, BitVec.getLsbD_ofBool, BitVec.getLsbD_zero]
  grind

theorem Status.getLsbD_toWord (t : Status) (busy : Bool) (k : Nat) : (t.toWord busy).getLsbD k =
    if k = 0 then busy else if k = 1 then t.done else if k = 2 then t.err
    else if k = 3 then t.overrun else if k = 4 then t.locked else if k = 5 then t.outValid
    else if 8 ≤ k ∧ k ≤ 15 then t.errCode.getLsbD (k - 8) else false := by
  simp only [Status.toWord, BitVec.getLsbD_append, BitVec.getLsbD_ofBool, BitVec.getLsbD_zero]
  match k with
  | 0 | 1 | 2 | 3 | 4 | 5 => simp
  | k + 6 => grind

/-- Settles O8: each address reads its register, and each register's word holds its fields. -/
theorem registersReadAsTheirFields : Obligations.RegistersReadAsTheirFields := by
  intro s
  have widen {n : Nat} (hn : n ≤ 32) (x : BitVec n) : (x.setWidth 32).toNat = x.toNat :=
    BitVec.toNat_setWidth_of_le hn
  exact ⟨rfl, fun k _ => s.ctrl.getLsbD_toWord k, fun k _ => s.status.getLsbD_toWord s.busy k, rfl,
    widen (by decide) s.version, widen (by decide) s.level, rfl, rfl, rfl, widen (by decide) s.cwBits,
    rfl, rfl, rfl, rfl, widen (by decide) s.bestMask, rfl, rfl, rfl, rfl, rfl, rfl, rfl, rfl, rfl, rfl, rfl, rfl, rfl⟩

end Sys2Proof.Machine
end

section
/-! SUPPORT. The address map as a table, and the transactions that meet no window: register writes, reserved ranges,
unaligned addresses (spec/20_memory.md R101, R103, R105, R108). -/

namespace Sys2Proof.Machine

/-! ### The map past the registers -/

/-- Past the registers stand the windows, and what is no window is reserved (R101). -/
theorem placeOf_past_registers {a : Nat} (h : 0x70 ≤ a) : placeOf a = (bufAt a).elim .reserved .window := by
  have hnone : regMap[a / 4]? = none := List.getElem?_eq_none (show 28 ≤ a / 4 by omega)
  unfold placeOf
  cases bufAt a with
  | none => simp [hnone]
  | some b => rfl

theorem bufAt_eq_none {a : Nat} (h : a < 0x01000 ∨ 0x04000 ≤ a ∧ a < 0x08000 ∨ 0x18000 ≤ a) : bufAt a = none := by
  refine Option.eq_none_iff_forall_ne_some.2 fun b hb => ?_
  obtain ⟨hlo, hhi⟩ := bufAt_eq_some_iff.1 hb
  cases b <;> simp only [Buf.base, Buf.size, Config.bufBytes, Config.gridCells] at hlo hhi <;> omega

/-- Settles O7: the 28 register rows one by one, and the ranges past them by the windows' bounds. -/
theorem addressMapAsTabled : Obligations.AddressMapAsTabled := by
  intro a ha halign
  obtain ⟨k, rfl⟩ := Nat.dvd_of_mod_eq_zero halign
  clear ha halign
  by_cases hk : k < 28
  · revert k
    decide
  · iterate 28 rw [if_neg (by omega)]
    rw [placeOf_past_registers (by omega)]
    grind [bufAt]

/-! ### Register transactions -/

/-- Every word below 0x00070 is a register, the one its place in the map names. -/
theorem placeOf_register {a : Addr} (h : a.toNat < 0x70) :
    placeOf (wordAddr a) = .reg (regMap[a.toNat / 4]'(show a.toNat / 4 < 28 by omega)) := by
  rw [placeOf_eq_reg_iff, wordAddr, Nat.mul_div_cancel _ (by decide)]
  exact List.getElem?_eq_getElem _

/-- Reading a register does nothing (R105). -/
theorem State.afterRead_register (s : State) {a : Addr} {r : Reg} (h : placeOf (wordAddr a) = .reg r) :
    s.afterRead a = s := by
  rw [State.afterRead, h]

theorem State.hostWrite_register (s : State) {a : Addr} {r : Reg} (h : placeOf (wordAddr a) = .reg r) (d : Word) :
    s.hostWrite a d = s.writeReg d r := by
  rw [State.hostWrite, h]

/-- The registers from RES0 on ignore writes (R105). -/
theorem State.writeReg_results (s : State) (d : Word) {k : Nat} (hk : k < 28) (h : 10 ≤ k) :
    s.writeReg d (regMap[k]'hk) = s := by
  interval_cases k <;> rfl

/-- Settles O9: each address is its register's, and a field stored is the low bits of the word. -/
theorem registerWritesAsTabled : Obligations.RegisterWritesAsTabled := by
  intro s d
  have low {n : Nat} (hn : n ≤ 32) : d.extractLsb' 0 n = d.setWidth n := (BitVec.setWidth_eq_extractLsb' hn).symm
  refine ⟨fun hd => ?enables, fun hd => ?reset, rfl, fun hp => s.writeCmd_idle hp d, fun hp => ?overrun,
    ?version, ?level, rfl, rfl, rfl, ?cwBits, rfl, fun a hlo hhi => ?readOnly, fun a ha => ?reads⟩
  case enables => exact if_neg (ne_true_of_eq_false hd)
  case reset => exact if_pos hd
  case overrun => exact State.writeCmd_busy (by simpa [State.busy, Option.isSome_iff_ne_none] using hp) d
  case version | level | cwBits =>
    rw [low (by decide)]
    rfl
  case readOnly =>
    rw [s.hostWrite_register (placeOf_register hhi)]
    exact s.writeReg_results d _ (by omega)
  case reads => exact s.afterRead_register (placeOf_register ha)

/-! ### Unaligned and reserved addresses -/

/-- Clearing bits 1:0 of an address leaves its word address (R103). -/
theorem wordAddr_aligned (a : Addr) : wordAddr (a &&& 0x1FFFC#17) = wordAddr a := by
  have hword : (a.toNat &&& 0x1FFFC) / 4 = a.toNat / 4 := by
    calc (a.toNat &&& 0x1FFFC) / 2 ^ 2 = a.toNat / 2 ^ 2 &&& 2 ^ 15 - 1 := by
          rw [← Nat.shiftRight_eq_div_pow, Nat.shiftRight_and_distrib, Nat.shiftRight_eq_div_pow]
          rfl
      _ = a.toNat / 2 ^ 2 := by
          rw [Nat.and_two_pow_sub_one_eq_mod, Nat.mod_eq_of_lt (by omega)]
  rw [wordAddr, wordAddr, BitVec.toNat_and]
  exact congrArg (· * 4) hword

theorem placeOf_reserved {a : Addr}
    (h : 0x00070 ≤ a.toNat ∧ a.toNat ≤ 0x00FFF ∨ 0x04000 ≤ a.toNat ∧ a.toNat ≤ 0x07FFF ∨
      0x18000 ≤ a.toNat ∧ a.toNat ≤ 0x1FFFF) : placeOf (wordAddr a) = .reserved := by
  have hword : wordAddr a = a.toNat / 4 * 4 := rfl
  rw [placeOf_past_registers (by omega), bufAt_eq_none (by omega)]
  rfl

/-- Settles O13: a transaction sees of its address the word address only, and nothing stands in the reserved ranges. -/
theorem unalignedAndReservedAddresses : Obligations.UnalignedAndReservedAddresses := by
  refine ⟨fun s a d => ?unaligned, fun s a d ha => ?reserved⟩
  case unaligned =>
    simp only [State.busData, State.afterRead, State.hostWrite, wordAddr_aligned, and_self]
  case reserved =>
    simp only [State.busData, State.afterRead, State.hostWrite, placeOf_reserved ha, and_self]

end Sys2Proof.Machine
end

section
/-! SUPPORT. The windows while no command is pending: the four lanes of a word, read and written (spec/20_memory.md R102,
R106, R107). -/

namespace Sys2Proof.Machine

/-! ### Lanes of a bus word -/

/-- Byte lane `j` of a word (R102). -/
theorem toNat_lane (w : Word) (j : Nat) : (w.extractLsb' (8 * j) 8).toNat = w.toNat / 256 ^ j % 256 := by
  rw [BitVec.extractLsb'_toNat, Nat.shiftRight_eq_div_pow, Nat.pow_mul]

/-- The lanes of a word read from memory are the bytes it was read from. -/
theorem lane_wordOfBytes (b : Nat → Byte) {j : Nat} (hj : j < 4) :
    (wordOfBytes (b 0) (b 1) (b 2) (b 3)).extractLsb' (8 * j) 8 = b j := by
  refine BitVec.eq_of_toNat_eq ?_
  rw [toNat_lane, wordOfBytes, BitVec.toNat_ofNat]
  have := (b 0).isLt
  have := (b 1).isLt
  have := (b 2).isLt
  have := (b 3).isLt
  interval_cases j <;> omega

/-- The bytes of a word are its lanes, lowest first. -/
theorem bytesOfWord_eq_lanes (w : Word) :
    bytesOfWord w = (List.range 4).map fun j => w.extractLsb' (8 * j) 8 := by
  have lane (j : Nat) : BitVec.ofNat 8 (w.toNat / 256 ^ j) = w.extractLsb' (8 * j) 8 :=
    BitVec.eq_of_toNat_eq (by rw [toNat_lane, BitVec.toNat_ofNat])
  simp [bytesOfWord, List.range_succ, ← lane]

/-- A word is 0 where each of its lanes is. -/
theorem eq_zero_of_lanes {w : Word} (h : ∀ j < 4, w.extractLsb' (8 * j) 8 = 0#8) : w = 0#32 := by
  refine BitVec.eq_of_getLsbD_eq fun k hk => ?_
  have hbit := congrArg (fun x => x.getLsbD (k % 8)) (h (k / 8) (by omega))
  simpa [Nat.mod_lt, Nat.div_add_mod] using hbit

/-! ### Entries -/

theorem Buf.lane_unlisted (b : Buf) : b.lane Memory.unlisted = Memory.unlisted := by
  cases b <;> decide

/-- In legal buffers an address of a buffer reads no wider than the buffer's entries. -/
theorem Memory.Legal.lane_read {m : Memory} (hm : m.Legal) {b : Buf} {a : Nat} (ha : bufAt a = some b) :
    b.lane (m.read a) = m.read a := by
  obtain ⟨-, hok⟩ := hm
  induction m with
  | nil => exact Buf.lane_unlisted b
  | cons c m ih =>
    rw [Memory.read_cons]
    split
    · next hc =>
      have hentry := hok c (by simp)
      rw [entryOk, hc, ha] at hentry
      simpa using hentry
    · exact ih fun d hd => hok d (by simp [hd])

/-! ### Transactions -/

theorem State.busData_window_idle {s : State} {a : Addr} {b : Buf} (hp : s.pend = none)
    (h : placeOf (wordAddr a) = .window b) : s.busData a = s.windowWord (wordAddr a) := by
  simp [State.busData, h, State.busy, hp]

theorem State.afterRead_idle {s : State} (hp : s.pend = none) (a : Addr) : s.afterRead a = s := by
  unfold State.afterRead
  split <;> simp [State.busy, hp]

theorem State.hostWrite_window_idle {s : State} {a : Addr} {b : Buf} (hp : s.pend = none)
    (h : placeOf (wordAddr a) = .window b) (d : Word) : s.hostWrite a d = s.windowStore b (wordAddr a) d := by
  simp [State.hostWrite, h, State.busy, hp]

/-- Lane `j` of a window's word is the entry at its address (R106). -/
theorem State.lane_windowWord (s : State) (a : Nat) {j : Nat} (hj : j < 4) :
    (s.windowWord a).extractLsb' (8 * j) 8 = s.mem.read (a + j) :=
  lane_wordOfBytes (fun j => s.mem.read (a + j)) hj

/-- A cell's lane has zeros above bit 2 (R107). -/
theorem State.windowWord_cells {s : State} (hs : s.MemInv) {b : Buf} (hb : b.isCells = true) {a : Nat}
    (ha : ∀ j < 4, bufAt (a + j) = some b) : s.windowWord a &&& 0xF8F8F8F8#32 = 0#32 := by
  refine eq_zero_of_lanes fun j hj => ?_
  have hcell : s.mem.read (a + j) &&& 7#8 = s.mem.read (a + j) := by
    simpa [Buf.lane, hb] using Memory.Legal.lane_read hs (ha j hj)
  have hmask : (0xF8F8F8F8#32).extractLsb' (8 * j) 8 = 0xF8#8 := by
    interval_cases j <;> rfl
  rw [BitVec.extractLsb'_and, s.lane_windowWord a hj, hmask, ← hcell, BitVec.and_assoc]
  exact BitVec.and_zero

/-- A window write changes memory, and OUT_VALID where the buffer holds cells; nothing else (R106, R107). -/
theorem State.windowStore_frame (s : State) (b : Buf) (a : Nat) (d : Word) : s.windowStore b a d =
    { s with
      mem := (s.windowStore b a d).mem
      status := if b.isCells then { s.status with outValid := false } else s.status } := by
  cases b <;> rfl

/-- The entry a lane of the word written is stored in. -/
theorem State.read_windowStore (s : State) (b : Buf) (a : Nat) (d : Word) {j : Nat} (hj : j < 4) :
    (s.windowStore b a d).mem.read (a + j) = b.lane (d.extractLsb' (8 * j) 8) := by
  rw [State.windowStore_mem, bytesOfWord_eq_lanes, Memory.read_writeRange_inside (by simpa using hj)]
  simp [List.getD_eq_getElem?_getD, hj]

theorem State.read_windowStore_outside (s : State) (b : Buf) {a x : Nat} (d : Word) (hx : x < a ∨ a + 4 ≤ x) :
    (s.windowStore b a d).mem.read x = s.mem.read x := by
  rw [State.windowStore_mem]
  exact Memory.read_writeRange_outside (by simpa [bytesOfWord] using hx)

/-- Settles O12: an idle window access is the window's word or its store, lane by lane. -/
theorem windowAccessesWhileIdle : Obligations.WindowAccessesWhileIdle := by
  intro s a d b hp hplace
  obtain ⟨hlo, hhi⟩ := wordAddr_window_bounds hplace
  rw [State.busData_window_idle hp hplace, State.hostWrite_window_idle hp hplace]
  refine ⟨fun j hj => s.lane_windowWord _ hj, fun hb hs => ?cells, State.afterRead_idle hp a,
    s.windowStore_frame b _ d, fun j hj => ?stored, fun x hx => s.read_windowStore_outside b d hx⟩
  case cells =>
    exact State.windowWord_cells hs hb fun j hj => bufAt_eq_some_iff.2 ⟨by omega, by omega⟩
  case stored => rw [s.read_windowStore b _ d hj, Buf.lane]

end Sys2Proof.Machine
end

section
/-! SUPPORT. Where commands write: the length of every run of bytes a command stores, and the bytes outside it
(spec/20_memory.md R111, spec/41_reed_solomon.md R265 to R267). -/

namespace Sys2Proof.Machine

/-! ### The capacity rows and the stream's length -/

/-- Every capacity row adds up: blocks, data codewords, all codewords; and its remainder bits fit one byte (R210, R266). -/
theorem cap_adds_up {lv v : Nat} (hlv : lv < 4) (hv : versionOk v = true) :
    (cap lv v).blocks = (cap lv v).g1Blocks + (cap lv v).g2Blocks ∧
      (cap lv v).dataCW = (cap lv v).g1Blocks * (cap lv v).g1Data + (cap lv v).g2Blocks * (cap lv v).g2Data ∧
      (cap lv v).totalCW = (cap lv v).dataCW + (cap lv v).ec * (cap lv v).blocks ∧ (cap lv v).rem ≤ 8 := by
  have rows : ∀ lv < 4, ∀ v < 41, (cap lv v).blocks = (cap lv v).g1Blocks + (cap lv v).g2Blocks ∧
      (cap lv v).dataCW = (cap lv v).g1Blocks * (cap lv v).g1Data + (cap lv v).g2Blocks * (cap lv v).g2Data ∧
      (cap lv v).totalCW = (cap lv v).dataCW + (cap lv v).ec * (cap lv v).blocks ∧ (cap lv v).rem ≤ 8 := by decide
  exact rows lv hlv v (Nat.lt_succ_of_le ((versionOk_iff v).1 hv).2)

/-- The round-robin over the first `n` places takes of each block what it holds of them. -/
theorem length_roundRobin (n : Nat) (blocks : List (List Byte)) :
    ((List.range n).flatMap fun i => blocks.filterMap fun b => b[i]?).length =
      (blocks.map fun b => min n b.length).sum := by
  induction n with
  | zero => simp
  | succ n ih =>
    rw [List.range_succ, List.flatMap_append, List.length_append, ih]
    clear ih
    induction blocks with
    | nil => rfl
    | cons b blocks ih =>
      simp only [List.map_cons, List.sum_cons, List.flatMap_singleton, List.filterMap_cons] at ih ⊢
      by_cases hb : n < b.length
      · simp only [List.getElem?_eq_getElem hb, List.length_cons]
        omega
      · simp only [List.getElem?_eq_none (Nat.le_of_not_lt hb)]
        omega

/-- `n` pieces of `w` entries, taken up to place `m` of each, give all their entries if `m` is no less than `w`. -/
theorem sum_min_chunk {w n m : Nat} {l : List Byte} (hl : n * w ≤ l.length) (hm : w ≤ m) :
    ((chunk w n l).map fun b => min m b.length).sum = n * w := by
  have hconst : (chunk w n l).map (fun b => min m b.length) = (chunk w n l).map fun _ => w :=
    List.map_congr_left fun b hb => by rw [chunk_width w n l hl b hb, Nat.min_eq_right hm]
  simp [hconst]

theorem length_interleaveData {e : CapEntry} {msg : List Byte}
    (h : msg.length = e.g1Blocks * e.g1Data + e.g2Blocks * e.g2Data) :
    (interleaveData e (splitBlocks e msg)).length = e.g1Blocks * e.g1Data + e.g2Blocks * e.g2Data := by
  rw [interleaveData, length_roundRobin, splitBlocks, List.map_append, List.sum_append,
    sum_min_chunk (by omega) (Nat.le_max_left _ _), sum_min_chunk (by rw [List.length_drop]; omega) (Nat.le_max_right _ _)]

theorem length_interleaveEcc (e : CapEntry) (ecc : List Byte) : (interleaveEcc e ecc).length = e.ec * e.blocks := by
  simp [interleaveEcc, List.length_flatMap]

/-- INTERLEAVE stores the whole stream, its last byte for the remainder bits (R266). -/
theorem length_composeStream {lv v : Nat} (hlv : lv < 4) (hv : versionOk v = true) {msg : List Byte}
    (hmsg : msg.length = (cap lv v).dataCW) (ecc : List Byte) :
    (composeStream (cap lv v) msg ecc).length = (8 * (cap lv v).totalCW + (cap lv v).rem + 7) / 8 := by
  obtain ⟨_, hdata, htotal, hrem⟩ := cap_adds_up hlv hv
  rw [composeStream, List.length_append, List.length_take, List.length_append, length_interleaveData (hmsg.trans hdata),
    length_interleaveEcc, ← hdata, ← htotal, Nat.min_self]
  split
  · simp only [List.length_nil]
    omega
  · simp only [List.length_singleton]
    omega

/-! ### Bytes outside what is written -/

/-- An address of the run of `n` entries of a buffer from offset `off` on, as `footprint` and `readprint` ask it. -/
def Buf.within (b : Buf) (off n a : Nat) : Bool := Nat.ble (b.base + off) a && Nat.blt a (b.base + off + n)

theorem Buf.within_iff {b : Buf} {off n a : Nat} : b.within off n a = true ↔ b.base + off ≤ a ∧ a < b.base + off + n := by
  simp [Buf.within]

theorem Memory.read_writeRange_not_within {m : Memory} {b : Buf} {off n a : Nat} {bs : List Byte} (hn : bs.length = n)
    (ha : b.within off n a = false) : (m.writeRange (b.base + off) bs).read a = m.read a := by
  have hout : ¬(b.base + off ≤ a ∧ a < b.base + off + n) := fun h => by simp [Buf.within_iff.2 h] at ha
  exact Memory.read_writeRange_outside (by omega)

/-- The rule of a command other than ENCODE stores nothing outside the command's footprint. -/
theorem CommandResult.read_outside {p : Pend} {s : State} {i : Instr} {r : CmdResult} (h : CommandResult p s i r)
    {a : Nat} (ha : footprint i p a = false) : r.state.mem.read a = s.mem.read a := by
  cases h with
  | failed | nop | results | maskScore => rfl
  | rsBlock => exact Memory.read_writeRange_not_within (length_rsRem _ _) ha
  | rsEncode hv =>
    obtain ⟨hblocks, _⟩ := cap_adds_up p.lv_lt hv
    exact Memory.read_writeRange_not_within (b := .ecc) (by rw [length_encodeBlocks, ← hblocks]) ha
  | interleave hv =>
    exact Memory.read_writeRange_not_within (b := .cw) (length_composeStream p.lv_lt hv (s.length_readBuf _ _ _) _) ha
  | buildFunc => exact Memory.read_writeRange_not_within (Grid.length_toBytes (funcGrid_square p.v)) ha
  | placeData =>
    exact Memory.read_writeRange_not_within (Grid.length_toBytes (placeBits_square _ _ (s.readGrid_square .grid p.v))) ha
  | maskApply | maskSelect =>
    exact Memory.read_writeRange_not_within (Grid.length_toBytes (candidate_square _ _ _ _)) ha

/-! ### ENCODE -/

/-- The commands whose rules ENCODE runs one after another (R441). -/
def encodeStageList : List Instr := [.rsEncode, .interleave, .buildFunc, .placeData, .maskSelect]

/-- What each stage keeps on ENCODE's operands, whatever CW_BITS its PLACE_DATA takes, ENCODE keeps. -/
theorem bodyEncode_keeps_of_stages {P : State → Prop} {p : Pend} {s : State} (hs : P s)
    (hstage : ∀ i ∈ encodeStageList, ∀ c u, P u → P (bodyOf i { p with cwBits := c } u).state) :
    P (bodyEncode p s).state := by
  rcases checkVersion_cases p s (encodeStages p s) with ⟨_, hbody⟩ | ⟨_, hbody⟩
  · rw [bodyEncode, hbody]
    refine CmdResult.andThen_keeps (CmdResult.andThen_keeps (CmdResult.andThen_keeps (CmdResult.andThen_keeps
      ?rsEncode fun u hu => ?interleave) fun u hu => ?buildFunc) fun u hu => ?placeData) fun u hu => ?maskSelect
    case rsEncode => exact hstage .rsEncode (by decide) p.cwBits s hs
    case interleave => exact hstage .interleave (by decide) p.cwBits u hu
    case buildFunc => exact hstage .buildFunc (by decide) p.cwBits u hu
    case placeData => exact hstage .placeData (by decide) u.cwBits u hu
    case maskSelect => exact hstage .maskSelect (by decide) p.cwBits u hu
  · rw [bodyEncode, hbody]
    exact hs

/-- ENCODE's footprint holds that of each of its stages. -/
theorem footprint_stage {i : Instr} (hi : i ∈ encodeStageList) {p : Pend} {a : Nat}
    (ha : footprint .encode p a = false) (c : BitVec 16) : footprint i { p with cwBits := c } a = false := by
  simp only [footprint, Bool.or_eq_false_iff] at ha
  obtain ⟨⟨⟨hecc, hcw⟩, hgrid⟩, hbest⟩ := ha
  fin_cases hi
  · exact hecc
  · exact hcw
  · exact hgrid
  · exact hgrid
  · exact hbest

theorem bodyOf_read_outside (i : Instr) {p : Pend} (s : State) {a : Nat} (ha : footprint i p a = false) :
    (bodyOf i p s).state.mem.read a = s.mem.read a := by
  by_cases hi : i = .encode
  · subst hi
    refine bodyEncode_keeps_of_stages (P := fun u => u.mem.read a = s.mem.read a) rfl fun i hi c u hu => ?_
    have hne : i ≠ .encode := by
      rintro rfl
      exact absurd hi (by decide)
    exact ((bodyOf_result hne _ u).read_outside (footprint_stage hi ha c)).trans hu
  · exact (bodyOf_result hi p s).read_outside ha

/-- Settles O44: the command's rule stores nothing outside its footprint, and completion stores nothing. -/
theorem commandsWriteOnlyTheirRanges : Obligations.CommandsWriteOnlyTheirRanges := by
  intro i s t p a hp h ha
  obtain ⟨q, hq, rfl⟩ := exec_next h
  obtain rfl : p = q := Option.some.inj (hp.symm.trans hq)
  rw [CmdResult.complete_mem]
  exact bodyOf_read_outside i s ha

end Sys2Proof.Machine
end

section
/-! SUPPORT. What a command's rule depends on: on two states that agree on the bytes the command reads, the rule gives the
same effects or the same error (spec/20_memory.md R111, R116, spec/30_encoding.md R152). -/

namespace Sys2Proof.Machine

/-! ### The effects of the rules -/

/-- One elementary change a command's rule makes of the state. -/
inductive Effect where
  | store (a : Nat) (bs : List Byte)
  | res (r : Results)
  | cwBits (n : BitVec 16)
  | bestMask (m : BitVec 3)
  | pen (x : Penalties)
  | penM (x : MaskTotals)
  | outValid (b : Bool)

def Effect.apply (s : State) : Effect → State
  | .store a bs => { s with mem := s.mem.writeRange a bs }
  | .res r => { s with res := r }
  | .cwBits n => { s with cwBits := n }
  | .bestMask m => { s with bestMask := m }
  | .pen x => { s with pen := x }
  | .penM x => { s with penM := x }
  | .outValid b => s.setOutValid b

/-- The effects of a rule, first one first. -/
def State.after (s : State) (es : List Effect) : State := es.foldl Effect.apply s

theorem State.after_append (s : State) (es fs : List Effect) : s.after (es ++ fs) = (s.after es).after fs :=
  List.foldl_append

/-- Some of the effects stores a byte at the address. -/
def stores (es : List Effect) (a : Nat) : Prop := ∃ b bs, Effect.store b bs ∈ es ∧ b ≤ a ∧ a < b + bs.length

/-! ### One answer on two states -/

/-- The rule's answers on `s` and `u`: the same effects made, with every address of `W` stored, or the same error after the
same effects. -/
inductive SameAnswer (W : Nat → Bool) (s u : State) : CmdResult → CmdResult → Prop
  | done (es : List Effect) (hW : ∀ a, W a = true → stores es a) : SameAnswer W s u (.done (s.after es)) (.done (u.after es))
  | failed (e : ErrorCode) (es : List Effect) : SameAnswer W s u (.failed e (s.after es)) (.failed e (u.after es))

/-- The two memories read alike wherever `A` asks. -/
def SameBytes (A : Nat → Bool) (s u : State) : Prop := ∀ a, A a = true → u.mem.read a = s.mem.read a

theorem Effect.apply_sameByte (e : Effect) {s u : State} {a : Nat} (h : u.mem.read a = s.mem.read a) :
    (e.apply u).mem.read a = (e.apply s).mem.read a := by
  cases e with
  | store b bs => simp only [Effect.apply, Memory.read_writeRange, h]
  | _ => exact h

theorem State.after_sameByte (es : List Effect) {s u : State} {a : Nat} (h : u.mem.read a = s.mem.read a) :
    (u.after es).mem.read a = (s.after es).mem.read a := by
  induction es generalizing s u with
  | nil => exact h
  | cons e es ih => exact ih (e.apply_sameByte h)

/-- A stored byte is the same after, whatever stood there before. -/
theorem State.after_sameByte_of_stores {es : List Effect} {a : Nat} (h : stores es a) (s u : State) :
    (u.after es).mem.read a = (s.after es).mem.read a := by
  obtain ⟨b, bs, hmem, hlo, hhi⟩ := h
  induction es generalizing s u with
  | nil => cases hmem
  | cons e es ih =>
    rcases List.mem_cons.1 hmem with rfl | htail
    · refine State.after_sameByte es ?_
      simp only [Effect.apply, Memory.read_writeRange, if_pos (And.intro hlo hhi)]
    · exact ih _ _ htail

namespace SameAnswer

variable {W : Nat → Bool} {s u : State}

/-- Where both rules make a choice by the same test. -/
protected theorem ite {c : Prop} [Decidable c] {k l k' l' : CmdResult} (hk : c → SameAnswer W s u k k')
    (hl : ¬c → SameAnswer W s u l l') : SameAnswer W s u (if c then k else l) (if c then k' else l') := by
  split
  · exact hk ‹_›
  · exact hl ‹_›

/-- An error with no effects. -/
theorem error (e : ErrorCode) : SameAnswer W s u (.failed e s) (.failed e u) := .failed e []

protected theorem checkVersion {p : Pend} {k k' : CmdResult} (hk : versionOk p.v = true → SameAnswer W s u k k') :
    SameAnswer W s u (checkVersion p s k) (checkVersion p u k') :=
  .ite hk fun _ => .error _

protected theorem checkCandidate {k k' : CmdResult} (g h : Grid) (hk : SameAnswer W s u k k') :
    SameAnswer W s u (checkCandidate g h s k) (checkCandidate g h u k') :=
  .ite (fun _ => .error _) fun _ => .ite (fun _ => hk) fun _ => .error _

theorem mono {V : Nat → Bool} {r r' : CmdResult} (h : SameAnswer W s u r r') (hV : ∀ a, V a = true → W a = true) :
    SameAnswer V s u r r' := by
  cases h with
  | done es hW => exact .done es fun a ha => hW a (hV a ha)
  | failed e es => exact .failed e es

/-- Two stages in a row: the second starts on states that agree wherever the first ones did and on all the first stored. -/
theorem andThen {V : Nat → Bool} {r r' : CmdResult} {f f' : State → CmdResult} {A : Nat → Bool}
    (h : SameAnswer W s u r r') (hA : SameBytes A s u)
    (hf : ∀ t t', r = .done t → r' = .done t' → SameBytes (fun a => A a || W a) t t' → SameAnswer V t t' (f t) (f' t')) :
    SameAnswer (fun a => W a || V a) s u (r.andThen f) (r'.andThen f') := by
  cases h with
  | failed e es => exact .failed e es
  | done es hW =>
    have hbytes : SameBytes (fun a => A a || W a) (s.after es) (u.after es) := fun a ha => by
      rcases Bool.or_eq_true_iff.1 ha with hA' | hW'
      · exact State.after_sameByte es (hA a hA')
      · exact State.after_sameByte_of_stores (hW a hW') s u
    have hnext := hf _ _ rfl rfl hbytes
    simp only [CmdResult.andThen_done]
    generalize f (s.after es) = q at hnext
    generalize f' (u.after es) = q' at hnext
    cases hnext with
    | failed e fs =>
      rw [← State.after_append, ← State.after_append]
      exact .failed e (es ++ fs)
    | done fs hV =>
      rw [← State.after_append, ← State.after_append]
      refine .done (es ++ fs) fun a ha => ?_
      rcases Bool.or_eq_true_iff.1 ha with hW' | hV'
      · obtain ⟨b, bs, hmem, hin⟩ := hW a hW'
        exact ⟨b, bs, List.mem_append_left _ hmem, hin⟩
      · obtain ⟨b, bs, hmem, hin⟩ := hV a hV'
        exact ⟨b, bs, List.mem_append_right _ hmem, hin⟩

/-- A rule that succeeds with a first store of `n` entries has stored them all. -/
theorem store {b : Buf} {off n : Nat} {bs : List Byte} (hn : bs.length = n) (es : List Effect) :
    SameAnswer (b.within off n) s u (.done (s.after (.store (b.base + off) bs :: es)))
      (.done (u.after (.store (b.base + off) bs :: es))) := by
  subst hn
  exact .done _ fun a ha => ⟨_, bs, List.mem_cons_self, Buf.within_iff.1 ha⟩

/-- A candidate's commit, and what follows it (R402, R410). -/
theorem commit {h : Grid} {n : Nat} (hh : h.Square n) (x : Scored) (es : List Effect) :
    SameAnswer (Buf.best.within 0 (n * n)) s u (.done ((s.commit h x).after es)) (.done ((u.commit h x).after es)) :=
  .store (Grid.length_toBytes hh) (.bestMask (BitVec.ofNat 3 x.mask) :: .pen x.score.registers :: .outValid true :: es)

/-- Results do not hang on the state they are written to. -/
theorem results (r0 r1 r2 r3 : Word) :
    SameAnswer (fun _ => false) s u (.done (s.setResults r0 r1 r2 r3)) (.done (u.setResults r0 r1 r2 r3)) :=
  .done [.res ⟨r0, r1, r2, r3⟩] nofun

end SameAnswer

/-! ### What a rule reads -/

/-- The range a rule reads of a buffer is the same on both states. -/
theorem SameBytes.readBuf {A : Nat → Bool} {s u : State} (h : SameBytes A s u) {b : Buf} {off n : Nat}
    (hA : ∀ a, b.within off n a = true → A a = true) : u.readBuf b off n = s.readBuf b off n := by
  rw [State.readBuf, State.readBuf, Memory.readRange_eq, Memory.readRange_eq]
  refine List.map_congr_left fun i hi => h _ (hA _ (Buf.within_iff.2 ?_))
  have := List.mem_range.1 hi
  omega

theorem SameBytes.readGrid {A : Nat → Bool} {s u : State} (h : SameBytes A s u) {b : Buf} {v : Nat}
    (hA : ∀ a, b.within 0 (size v * size v) a = true → A a = true) : u.readGrid b v = s.readGrid b v := by
  rw [State.readGrid, State.readGrid, h.readBuf hA]

/-- The rule of every command but ENCODE answers alike on states that agree on what the command reads (R111). -/
theorem bodyOf_sameAnswer_of_ne_encode {i : Instr} (hi : i ≠ .encode) (p : Pend) {s u : State}
    (h : SameBytes (readprint i p) s u) : SameAnswer (footprint i p) s u (bodyOf i p s) (bodyOf i p u) := by
  cases i with
  | nop => exact .done [] nofun
  | capChars | capGeom | capInfo | capCci => exact .checkVersion fun _ => .results _ _ _ _
  | capVer => exact .checkVersion fun _ => .ite (fun _ => .error _) fun _ => .results _ _ _ _
  | capFmt | gfMul | gfExp => exact .results _ _ _ _
  | gfLog => exact .ite (fun _ => .error _) fun _ => .results _ _ _ _
  | gfGen => exact .ite (fun _ => .results _ _ _ _) fun _ => .error _
  | rsBlock =>
    have hmsg := h.readBuf (b := .msg) (off := p.src) (n := p.len) fun _ ha => ha
    rw [bodyOf, bodyRsBlock, bodyRsBlock, hmsg]
    exact .ite (fun _ => .store (b := .ecc) (length_rsRem _ _) []) fun _ => .error _
  | rsEncode =>
    have hmsg := h.readBuf (b := .msg) (off := 0) (n := (cap p.lv p.v).dataCW) fun _ ha => ha
    rw [bodyOf, bodyRsEncode, bodyRsEncode, rsEncodeEffect, rsEncodeEffect, hmsg]
    refine .checkVersion fun hv => .store (b := .ecc) ?_ []
    obtain ⟨hblocks, _⟩ := cap_adds_up p.lv_lt hv
    rw [length_encodeBlocks, ← hblocks]
  | interleave =>
    have hmsg := h.readBuf (b := .msg) (off := 0) (n := (cap p.lv p.v).dataCW) fun _ ha => Bool.or_inl ha
    have hecc := h.readBuf (b := .ecc) (off := 0) (n := (cap p.lv p.v).blocks * (cap p.lv p.v).ec) fun _ ha => Bool.or_inr ha
    rw [bodyOf, bodyInterleave, bodyInterleave, interleaveEffect, interleaveEffect, hmsg, hecc]
    exact .checkVersion fun hv => .store (b := .cw) (length_composeStream p.lv_lt hv (s.length_readBuf _ _ _) _) [.cwBits _]
  | buildFunc =>
    exact .checkVersion fun _ => .store (b := .grid) (Grid.length_toBytes (funcGrid_square p.v)) [.outValid false]
  | placeData =>
    have hgrid := h.readGrid (b := .grid) (v := p.v) fun _ ha => Bool.or_inr ha
    have hcw := h.readBuf (b := .cw) (off := 0) (n := (p.cwBits.toNat + 7) / 8) fun _ ha => Bool.or_inl ha
    rw [bodyOf, bodyPlaceData, bodyPlaceData, placeOn, placeOn, placeEffect, placeEffect, State.streamBits,
      State.streamBits, hgrid, hcw]
    exact .checkVersion fun _ => .ite (fun _ => .error _) fun _ => .ite
      (fun _ => .store (b := .grid) (Grid.length_toBytes (placeBits_square _ _ (s.readGrid_square .grid p.v)))
        [.outValid false])
      fun _ => .error _
  | freeCount =>
    have hgrid := h.readGrid (b := .grid) (v := p.v) fun _ ha => ha
    rw [bodyOf, bodyFreeCount, bodyFreeCount, hgrid]
    exact .checkVersion fun _ => .ite (fun _ => .error _) fun _ => .results _ _ _ _
  | maskApply =>
    have hgrid := h.readGrid (b := .grid) (v := p.v) fun _ ha => ha
    rw [bodyOf, bodyMaskApply, bodyMaskApply, hgrid]
    exact .checkVersion fun _ => .checkCandidate _ _ (.commit (candidate_square _ _ _ _) _ [])
  | maskScore =>
    have hbest := h.readGrid (b := .best) (v := p.v) fun _ ha => ha
    rw [bodyOf, bodyMaskScore, bodyMaskScore, hbest]
    exact .checkVersion fun _ => .ite (fun _ => .error _) fun _ => .ite
      (fun _ => .done [.pen (Score.registers _)] nofun) fun _ => .error _
  | maskSelect =>
    have hgrid := h.readGrid (b := .grid) (v := p.v) fun _ ha => ha
    rw [bodyOf, bodyMaskSelect, bodyMaskSelect, hgrid]
    exact .checkVersion fun _ => .checkCandidate _ _ (.commit (candidate_square _ _ _ _) _ [.penM _])
  | encode => exact absurd rfl hi

/-! ### ENCODE -/

/-- ENCODE's operands as its PLACE_DATA takes them: CW_BITS is the length INTERLEAVE has written (R266, R441). -/
def Pend.onStream (p : Pend) : Pend :=
  { p with cwBits := BitVec.ofNat 16 (8 * (cap p.lv p.v).totalCW + (cap p.lv p.v).rem) }

/-- INTERLEAVE leaves the stream's length in CW_BITS, and BUILD_FUNC keeps it for PLACE_DATA. -/
theorem encodeStages_onStream {p : Pend} {s t : State} (hv : versionOk p.v = true)
    (h : ((bodyRsEncode p s).andThen (bodyInterleave p)).andThen (bodyBuildFunc p) = .done t) :
    { p with cwBits := t.cwBits } = p.onStream := by
  obtain ⟨u, hstream, hbuild⟩ := CmdResult.andThen_eq_done h
  obtain ⟨w, _, hinterleave⟩ := CmdResult.andThen_eq_done hstream
  rw [bodyInterleave, checkVersion_ok hv] at hinterleave
  rw [bodyBuildFunc, checkVersion_ok hv] at hbuild
  cases hinterleave
  cases hbuild
  rfl

/-- CW_BITS is wide enough for the stream's length. -/
theorem Pend.toNat_onStream_cwBits {p : Pend} (hv : versionOk p.v = true) :
    p.onStream.cwBits.toNat = 8 * (cap p.lv p.v).totalCW + (cap p.lv p.v).rem := by
  obtain ⟨_, hfits⟩ := cap_fits p.lv_lt hv
  obtain ⟨_, _, _, hrem⟩ := cap_adds_up p.lv_lt hv
  rw [Config.bufBytes] at hfits
  rw [Pend.onStream, BitVec.toNat_ofNat, Nat.mod_eq_of_lt (by omega)]

/-- On ENCODE's stream PLACE_DATA reads what INTERLEAVE and BUILD_FUNC have stored (R441). -/
theorem placeData_reads_stream {p : Pend} (hv : versionOk p.v = true) {a : Nat}
    (ha : readprint .placeData p.onStream a = true) :
    footprint .interleave p a = true ∨ footprint .buildFunc p a = true := by
  simp only [readprint] at ha
  rw [Pend.toNat_onStream_cwBits hv, Bool.or_eq_true] at ha
  exact ha

theorem SameBytes.mono {A B : Nat → Bool} {s u : State} (h : SameBytes A s u) (hB : ∀ a, B a = true → A a = true) :
    SameBytes B s u := fun a ha => h a (hB a ha)

/-- ENCODE answers alike on states that agree on its message: what else a stage reads, a stage before it has stored. -/
theorem bodyEncode_sameAnswer (p : Pend) {s u : State} (h : SameBytes (readprint .encode p) s u) :
    SameAnswer (footprint .encode p) s u (bodyEncode p s) (bodyEncode p u) := by
  refine .checkVersion fun hv => ?_
  have stage {i : Instr} (hi : i ≠ .encode) (q : Pend) {t t' : State} {A : Nat → Bool} (hA : SameBytes A t t')
      (hread : ∀ a, readprint i q a = true → A a = true) :
      SameAnswer (footprint i q) t t' (bodyOf i q t) (bodyOf i q t') :=
    bodyOf_sameAnswer_of_ne_encode hi q (hA.mono hread)
  have hecc := stage (i := .rsEncode) (by decide) p h fun _ ha => ha
  have hcw := hecc.andThen h fun t t' _ _ ht => stage (i := .interleave) (by decide) p ht fun a ha => ha
  have hbuild := hcw.andThen h fun t t' _ _ ht => stage (i := .buildFunc) (by decide) p ht nofun
  have hplace := hbuild.andThen (V := footprint .placeData p.onStream) h
    (f := fun t => bodyOf .placeData { p with cwBits := t.cwBits } t)
    (f' := fun t => bodyOf .placeData { p with cwBits := t.cwBits } t) fun t t' ht ht' hbytes => by
      rw [encodeStages_onStream hv ht, encodeStages_onStream hv ht']
      refine stage (i := .placeData) (by decide) p.onStream hbytes fun a ha => Bool.or_inr ?_
      rcases placeData_reads_stream hv ha with hstream | hgrid
      · exact Bool.or_inl (Bool.or_inr hstream)
      · exact Bool.or_inr hgrid
  have hselect := hplace.andThen h fun t t' _ _ ht =>
    stage (i := .maskSelect) (by decide) p ht fun a ha => Bool.or_inr (Bool.or_inr ha)
  refine hselect.mono fun a ha => ?_
  rcases Bool.or_eq_true_iff.1 ha with hstored | hbest
  · exact Bool.or_inl (Bool.or_inl hstored)
  · exact Bool.or_inr hbest

theorem bodyOf_sameAnswer (i : Instr) (p : Pend) {s u : State} (h : SameBytes (readprint i p) s u) :
    SameAnswer (footprint i p) s u (bodyOf i p s) (bodyOf i p u) := by
  by_cases hi : i = .encode
  · subst hi
    exact bodyEncode_sameAnswer p h
  · exact bodyOf_sameAnswer_of_ne_encode hi p h

/-! ### Completions of one command on two states -/

/-- A relation of states that every effect of a rule and both completions carry over. -/
structure Carried (R : State → State → Prop) : Prop where
  effect : ∀ (e : Effect) {s u : State}, R s u → R (e.apply s) (e.apply u)
  ok : ∀ {s u : State}, R s u → R s.completeOk u.completeOk
  err : ∀ (e : ErrorCode) {s u : State}, R s u → R (s.completeErr e) (u.completeErr e)

theorem Carried.after {R : State → State → Prop} (hR : Carried R) (es : List Effect) {s u : State} (h : R s u) :
    R (s.after es) (u.after es) := by
  induction es generalizing s u with
  | nil => exact h
  | cons e es ih => exact ih (hR.effect e h)

theorem SameAnswer.complete {W : Nat → Bool} {R : State → State → Prop} (hR : Carried R) {s u : State}
    {r r' : CmdResult} (h : SameAnswer W s u r r') (hsu : R s u) : R r.complete r'.complete := by
  cases h with
  | done es => exact hR.ok (hR.after es hsu)
  | failed e es => exact hR.err e (hR.after es hsu)

/-- Where a command has succeeded, its stored bytes are the same. -/
theorem SameAnswer.complete_sameBytes {W : Nat → Bool} {s u : State} {r r' : CmdResult} (h : SameAnswer W s u r r')
    (hok : r.complete.status.err = false) : SameBytes W r.complete r'.complete := by
  cases h with
  | done es hW => exact fun a ha => State.after_sameByte_of_stores (hW a ha) s u
  | failed e es => cases hok

/-- A command pending in two states that agree on what it reads completes in both, and every carried relation with it. -/
theorem exec_carried {R : State → State → Prop} (hR : Carried R) (i : Instr) {p : Pend} {s u : State}
    (hs : s.pend = some p) (hu : u.pend = some p) (hread : SameBytes (readprint i p) s u) (hsu : R s u) :
    ∃ t t', exec i s = .next t ∧ exec i u = .next t' ∧ R t t' ∧
      (t.status.err = false → SameBytes (footprint i p) t t') := by
  have hsame := bodyOf_sameAnswer i p hread
  refine ⟨(bodyOf i p s).complete, (bodyOf i p u).complete, ?onS, ?onU, hsame.complete hR hsu, hsame.complete_sameBytes⟩
  case onS => rw [exec_eq_runCommand, State.runCommand_pending hs]
  case onU => rw [exec_eq_runCommand, State.runCommand_pending hu]

/-- Two states that differ in memory at most. -/
def SameRegisters (s u : State) : Prop := u = { s with mem := u.mem }

theorem sameRegisters_carried : Carried SameRegisters where
  effect e s u h := by
    rw [SameRegisters, h]
    cases e <;> rfl
  ok h := by
    rw [SameRegisters, h]
    rfl
  err e s u h := by
    rw [SameRegisters, h]
    rfl

/-- Settles O47: equality of all registers is carried over, and a success stores the same bytes. -/
theorem commandsReadOnlyTheirRanges : Obligations.CommandsReadOnlyTheirRanges := by
  intro i s t p m hp _ h hread
  obtain ⟨t₁, u, ht, hu, hregs, hbytes⟩ := exec_carried sameRegisters_carried i (u := { s with mem := m }) hp hp hread rfl
  obtain rfl : t = t₁ := by
    rw [h] at ht
    injection ht
  exact ⟨u.mem, hregs ▸ hu, hbytes⟩

end Sys2Proof.Machine
end

section
/-! SUPPORT. What the host can do while a command is pending, and that its completion comes out the same (spec/20_memory.md
R110, R113, spec/70_reset_and_hazards.md R571 to R574). -/

namespace Sys2Proof.Machine

/-! ### The window lock -/

/-- LOCKED is read by no rule and no completion (R110). -/
theorem lock_carried : Carried fun s u => u = s.lock where
  effect e _ _ h := by
    subst h
    cases e <;> rfl
  ok h := h ▸ rfl
  err _ _ _ h := h ▸ rfl

theorem State.afterRead_window_busy {s : State} {a : Addr} {b : Buf} (hs : s.busy = true)
    (h : placeOf (wordAddr a) = .window b) : s.afterRead a = s.lock := by
  simp [State.afterRead, h, hs]

theorem State.hostWrite_window_busy {s : State} {a : Addr} {b : Buf} (hs : s.busy = true)
    (h : placeOf (wordAddr a) = .window b) (d : Word) : s.hostWrite a d = s.lock := by
  simp [State.hostWrite, h, hs]

theorem State.busy_of_pend {s : State} {p : Pend} (h : s.pend = some p) : s.busy = true := by
  simp [State.busy, h]

/-- Settles O14: a window access while busy is the lock, and the lock is carried through the completion. -/
theorem windowLockWhileBusy : Obligations.WindowLockWhileBusy := by
  intro s p a d b hp hplace
  have hbusy := State.busy_of_pend hp
  rw [State.afterRead_window_busy hbusy hplace, State.hostWrite_window_busy hbusy hplace]
  refine ⟨?reads, rfl, rfl, fun i => ?completes⟩
  case reads => simp [State.busData, hplace, hbusy]
  case completes =>
    obtain ⟨t, _, ht, hlocked, rfl, _⟩ := exec_carried lock_carried i (u := s.lock) hp hp (fun _ _ => rfl) rfl
    exact ⟨t, ht, hlocked, hlocked⟩

/-! ### Any other transaction -/

/-- What a completion leaves for the host to find: buffers, results, OUT_VALID and how it ended. -/
structure SameOutcome (s u : State) : Prop where
  mem : u.mem = s.mem
  res : u.res = s.res
  bestMask : u.bestMask = s.bestMask
  pen : u.pen = s.pen
  penM : u.penM = s.penM
  outValid : u.status.outValid = s.status.outValid
  done : u.status.done = s.status.done
  err : u.status.err = s.status.err
  errCode : u.status.errCode = s.status.errCode

theorem sameOutcome_carried : Carried SameOutcome where
  effect e _ _ h := by
    cases e with
    | store a bs => exact { h with mem := congrArg (·.writeRange a bs) h.mem }
    | res => exact { h with res := rfl }
    | cwBits => exact { h with }
    | bestMask => exact { h with bestMask := rfl }
    | pen => exact { h with pen := rfl }
    | penM => exact { h with penM := rfl }
    | outValid => exact { h with outValid := rfl }
  ok h := { h with done := rfl }
  err _ _ _ h := { h with err := rfl, errCode := rfl }

/-- What a host transaction keeps of a pending command: the command, its inputs and the results already there. -/
structure Undisturbed (s u : State) : Prop extends SameOutcome s u where
  pend : u.pend = s.pend
  lastCmd : u.lastCmd = s.lastCmd

theorem Undisturbed.refl (s : State) : Undisturbed s s := ⟨⟨rfl, rfl, rfl, rfl, rfl, rfl, rfl, rfl, rfl⟩, rfl, rfl⟩

theorem Undisturbed.lock (s : State) : Undisturbed s s.lock := { Undisturbed.refl s with }

theorem Undisturbed.hostRead (s : State) (a : Addr) : Undisturbed s (s.hostRead a) := by
  unfold State.hostRead
  rcases s.afterRead_cases a with h | h <;> rw [h]
  · exact { Undisturbed.refl s with }
  · exact { Undisturbed.lock s with }

/-- While a command is pending DONE, ERR and ERR_CODE are 0 already, so that a STATUS write clears none of them (R531). -/
theorem Undisturbed.clearedBy {s : State} (hs : s.StatusInv) (hbusy : s.busy = true) (d : Word) :
    Undisturbed s { s with status := s.status.clearedBy d } := by
  obtain ⟨_, hcode, _, hpending⟩ := hs
  obtain ⟨hdone, herr⟩ := hpending hbusy
  exact
    { Undisturbed.refl s with
      done := by simp [Status.clearedBy, hdone]
      err := by simp [Status.clearedBy, herr]
      errCode := by simp [Status.clearedBy, hcode herr] }

/-- A register write while busy leaves the pending command alone, unless it is CTRL's soft reset (R571, R572). -/
theorem Undisturbed.writeReg {s : State} (hs : s.StatusInv) (hbusy : s.busy = true) {d : Word} {r : Reg}
    (hr : ¬(r = .ctrl ∧ d.getLsbD 31 = true)) : Undisturbed s (s.writeReg d r) := by
  cases r with
  | ctrl =>
    rcases s.writeCtrl_cases d with ⟨hd, _⟩ | ⟨_, h⟩
    · exact absurd ⟨rfl, hd⟩ hr
    · rw [State.writeReg, h]
      exact { Undisturbed.refl s with }
  | status => exact .clearedBy hs hbusy d
  | cmd =>
    rw [State.writeReg, State.writeCmd_busy hbusy]
    exact { Undisturbed.refl s with }
  | _ => exact { Undisturbed.refl s with }

theorem Undisturbed.hostWrite {s : State} (hs : s.StatusInv) (hbusy : s.busy = true) {a : Addr} {d : Word}
    (ha : ¬(a.toNat / 4 = 1 ∧ d.getLsbD 31 = true)) : Undisturbed s (s.hostWrite a d) := by
  rcases s.hostWrite_cases a d with ⟨r, hplace, h⟩ | ⟨b, _, _, h⟩ | ⟨b, _, hidle, _⟩ | ⟨_, h⟩
  · rw [h]
    refine .writeReg hs hbusy fun ⟨hctrl, hd⟩ => ha ⟨?_, hd⟩
    rw [hctrl, placeOf_eq_ctrl_iff, wordAddr, Nat.mul_div_cancel _ (by decide)] at hplace
    exact hplace
  · rw [h]
    exact .lock s
  · exact absurd (hbusy.symm.trans hidle) (by decide)
  · rw [h]
    exact .refl s

/-- Settles O15: each transaction leaves the pending command undisturbed, and its outcome is carried through the completion. -/
theorem busyHostAccessesDoNotInterfere : Obligations.BusyHostAccessesDoNotInterfere := by
  intro s p i e hp hs he
  have hbusy := State.busy_of_pend hp
  obtain ⟨u, hmove, hu⟩ : ∃ u, s.eventMove e = .moved u ∧ Undisturbed s u := by
    rcases he with ⟨a, rfl⟩ | ⟨a, d, rfl, ha⟩
    · exact ⟨_, rfl, .hostRead s a⟩
    · exact ⟨_, rfl, .hostWrite hs hbusy ha⟩
  have hread : SameBytes (readprint i p) s u := fun a _ => by rw [hu.mem]
  obtain ⟨t, t', ht, ht', h, _⟩ := exec_carried sameOutcome_carried i hp (hu.pend.trans hp) hread hu.toSameOutcome
  exact ⟨u, t, t', hmove, hu.pend.trans hp, hu.mem, hu.res, hu.bestMask, hu.pen, hu.penM, hu.lastCmd, ht, ht', h.mem,
    h.res, h.bestMask, h.pen, h.penM, h.outValid, h.done, h.err, h.errCode⟩

end Sys2Proof.Machine
end

section
/-! SUPPORT. Command words: which words decode, to what, and how a word stands on the bus (spec/30_encoding.md R150,
R151, R153, R154, spec/20_memory.md R102). -/

namespace Sys2Proof

/-! ### The opcode map -/

theorem lookupOpcode_mem {opc : Nat} {i : Instr} {rows : List (Nat × Instr)} (h : lookupOpcode opc rows = some i) :
    (opc, i) ∈ rows := by
  induction rows with
  | nil => cases h
  | cons row rows ih =>
    obtain ⟨o, j⟩ := row
    rw [lookupOpcode] at h
    split at h
    · next ho =>
      cases h
      rw [eq_of_beq ho]
      exact List.mem_cons_self
    · exact List.mem_cons_of_mem _ (ih h)

/-- Each row of the map holds the opcode of its command (R151). -/
theorem fst_eq_opcode_of_mem : ∀ row ∈ opcodeMap, row.1 = opcode row.2 := by decide

/-- An assigned opcode is some command's. -/
theorem exists_opcode_eq {opc : Nat} (h : opc ∈ assignedOpcodes) : ∃ i, opc = opcode i := by
  obtain ⟨row, hrow, rfl⟩ := List.mem_map.1 (show opc ∈ opcodeMap.map Prod.fst from h)
  exact ⟨row.2, fst_eq_opcode_of_mem row hrow⟩

/-! ### Legal words -/

/-- A word whose ZERO field is 0 is determined by its opcode. -/
theorem eq_encode {w : Word} {i : Instr} (hzero : zeroFieldOk w = true) (hopc : w.toNat % 256 = opcode i) :
    w = encode i := by
  have hsmall : w.toNat % 256 = w.toNat := by
    have := eq_of_beq hzero
    omega
  rw [encode, ← hopc, hsmall, BitVec.ofNat_toNat, BitVec.setWidth_eq]

theorem eq_encode_of_decode {w : Word} {i : Instr} (h : decode w = .ok i) : w = encode i := by
  unfold decode at h
  split at h
  · next hzero =>
    split at h
    · next j hlookup =>
      cases h
      exact eq_encode hzero (fst_eq_opcode_of_mem _ (lookupOpcode_mem hlookup))
    · cases h
  · cases h

theorem wordWf_encode (i : Instr) : wordWf (encode i) = true :=
  let ⟨_, hwf, _⟩ := Laws.Coding.statement i
  hwf

theorem exists_decode_iff_wordWf {w : Word} : (∃ i, decode w = .ok i) ↔ wordWf w = true := by
  constructor
  · rintro ⟨i, hi⟩
    rw [eq_encode_of_decode hi]
    exact wordWf_encode i
  · intro h
    obtain ⟨hzero, hopc⟩ := Bool.and_eq_true_iff.1 h
    obtain ⟨i, hi⟩ := exists_opcode_eq (List.contains_iff_mem.1 hopc)
    exact ⟨i, eq_encode hzero hi ▸ decode_encode i⟩

/-- The two checks are those of the word's fields: ZERO in bits 31:8, OPC in bits 7:0 (R150). -/
theorem wordWf_iff_fields {w : Word} :
    wordWf w = true ↔ w.extractLsb' 8 24 = 0#24 ∧ (w.extractLsb' 0 8).toNat ∈ assignedOpcodes := by
  have hzero : zeroFieldOk w = true ↔ w.extractLsb' 8 24 = 0#24 := by
    rw [← BitVec.toNat_inj, BitVec.extractLsb'_toNat, Nat.shiftRight_eq_div_pow, zeroFieldOk, beq_iff_eq,
      Nat.mod_eq_of_lt (by have := w.isLt; omega)]
    rfl
  have hopc : w.toNat % 256 = (w.extractLsb' 0 8).toNat := by rw [BitVec.extractLsb'_toNat, Nat.shiftRight_zero]
  rw [wordWf, Bool.and_eq_true, hzero, opcodeOk, List.contains_iff_mem, hopc]

/-! ### Words as bytes -/

/-- A word is read back from its four bytes (R102). -/
theorem decodeBytes_bytesOfWord (w : Word) (rest : List Byte) :
    decodeBytes (bytesOfWord w ++ rest) = (decode w).map (·, rest) := by
  have hword : wordOfBytes (BitVec.ofNat 8 w.toNat) (BitVec.ofNat 8 (w.toNat / 256)) (BitVec.ofNat 8 (w.toNat / 65536))
      (BitVec.ofNat 8 (w.toNat / 16777216)) = w := by
    refine BitVec.eq_of_toNat_eq ?_
    simp only [wordOfBytes, BitVec.toNat_ofNat]
    have := w.isLt
    omega
  simp only [bytesOfWord, List.cons_append, List.nil_append, decodeBytes, hword]
  cases decode w <;> rfl

theorem decodeBytes_encode (i : Instr) : decodeBytes (bytesOfWord (encode i)) = .ok (i, []) := by
  rw [← List.append_nil (bytesOfWord _), decodeBytes_bytesOfWord, decode_encode]
  rfl

theorem decodeTableWord_encode (i : Instr) : decodeTableWord 32 (encode i).toNat = some i := by
  have hlt := (encode i).isLt
  simp [decodeTableWord, Nat.mod_eq_of_lt hlt, hlt, decodeBytes_encode]

/-! ### The obligations -/

/-- Settles O2: a word that decodes is its command's, and the map's opcodes are those of the commands. -/
theorem decodeEncodeAgree : Obligations.DecodeEncodeAgree :=
  ⟨fun i _ => ⟨wordWf_encode i, decode_encode i, decodeBytes_encode i, decodeTableWord_encode i⟩,
    fun _ _ => eq_encode_of_decode, fun _ => exists_decode_iff_wordWf, fun _ => wordWf_iff_fields⟩

/-- Settles O3: closed words, evaluated by the decoder. -/
theorem wordsOfTheOpcodeMapDecode : Obligations.WordsOfTheOpcodeMapDecode :=
  ⟨rfl, rfl, rfl, rfl, rfl, rfl, rfl, rfl⟩

end Sys2Proof
end

section
/-! SUPPORT. The completion of an illegal word (spec/30_encoding.md R153). -/

namespace Sys2Proof.Machine

/-- The engine's turn on an illegal word is the error completion, whatever the decoder's reason. -/
theorem State.engineMove_illegal {s : State} {p : Pend} (hp : s.pend = some p) (h : ¬wordWf p.word = true) :
    s.engineMove = .moved (s.erred 0x01#8) := by
  rcases s.engineMove_cases with ⟨hnone, _⟩ | ⟨q, i, hq, hi, _⟩ | ⟨_, _, _, _, hmove⟩
  · cases hp.symm.trans hnone
  · cases hp.symm.trans hq
    exact absurd (exists_decode_iff_wordWf.1 ⟨i, hi⟩) h
  · exact hmove

/-- Settles O4: a word with such fields is not legal, and the next move is the engine's turn on it. -/
theorem illegalWordCompletesWithIllegalCmd : Obligations.IllegalWordCompletesWithIllegalCmd := by
  intro s p hp hfields
  have hword : ¬wordWf p.word = true := fun hwf =>
    let ⟨hzero, hopc⟩ := wordWf_iff_fields.1 hwf
    hfields.elim (absurd hzero) (absurd hopc)
  refine ⟨fun hs => ?_, fun rest hs => ?_⟩
  · exact step_of_moved <| (State.nextMove_empty hs).trans (State.engineMove_illegal hp hword)
  · exact step_of_moved <| (State.nextMove_engine hs).trans (State.engineMove_illegal (p := p) hp hword)

end Sys2Proof.Machine
end

section
/-! SUPPORT. A completion and the live operand registers: it neither reads them nor writes any but CW_BITS
(spec/30_encoding.md R152, spec/70_reset_and_hazards.md R572). -/

namespace Sys2Proof.Machine

/-! ### CW_BITS after a completion -/

/-- Past its version check INTERLEAVE writes the length of the stream (R266). -/
theorem bodyInterleave_cwBits (p : Pend) (s : State) :
    (bodyInterleave p s).state.cwBits = if versionOk p.v then p.onStream.cwBits else s.cwBits := by
  unfold bodyInterleave checkVersion
  split <;> rfl

/-- The stages of ENCODE after INTERLEAVE keep the CW_BITS it has written, whether they succeed or fail. -/
theorem bodyEncode_cwBits (p : Pend) (s : State) :
    (bodyEncode p s).state.cwBits = if versionOk p.v then p.onStream.cwBits else s.cwBits := by
  cases hv : versionOk p.v with
  | false =>
    rw [bodyEncode, checkVersion_bad hv]
    rfl
  | true =>
    have stage {i : Instr} (hi : writesCwBits i = false) (q : Pend) (u : State) (hu : u.cwBits = p.onStream.cwBits) :
        (bodyOf i q u).state.cwBits = p.onStream.cwBits :=
      ((bodyOf_frame i q u).cwBits hi).trans hu
    have hinterleave (u : State) : (bodyInterleave p u).state.cwBits = p.onStream.cwBits :=
      (bodyInterleave_cwBits p u).trans (if_pos hv)
    rw [bodyEncode, checkVersion_ok hv, encodeStages, bodyRsEncode, checkVersion_ok hv, CmdResult.andThen_done]
    exact CmdResult.andThen_keeps
      (CmdResult.andThen_keeps
        (CmdResult.andThen_keeps (P := fun u => u.cwBits = p.onStream.cwBits) (hinterleave _)
          fun u hu => stage (i := .buildFunc) rfl p u hu)
        fun u hu => stage (i := .placeData) rfl { p with cwBits := u.cwBits } u hu)
      fun u hu => stage (i := .maskSelect) rfl p u hu

/-- Whether command `i` writes CW_BITS for operands `p`: its version check decides. -/
def setsCwBits (i : Instr) (p : Pend) : Bool := writesCwBits i && versionOk p.v

/-- CW_BITS takes the length of the stream, which the latched operands alone determine, or stays as it was (R58, R266). -/
theorem bodyOf_cwBits (i : Instr) (p : Pend) (s : State) :
    (bodyOf i p s).state.cwBits = if setsCwBits i p then p.onStream.cwBits else s.cwBits := by
  cases i with
  | interleave => exact bodyInterleave_cwBits p s
  | encode => exact bodyEncode_cwBits p s
  | _ => exact (bodyOf_frame _ p s).cwBits rfl

theorem exec_pending {s : State} {p : Pend} (hp : s.pend = some p) (i : Instr) :
    exec i s = .next (bodyOf i p s).complete := by
  rw [exec_eq_runCommand, State.runCommand_pending hp]

theorem exec_cwBits {i : Instr} {s t : State} {p : Pend} (hp : s.pend = some p) (h : exec i s = .next t) :
    t.cwBits = if setsCwBits i p then p.onStream.cwBits else s.cwBits := by
  rw [exec_pending hp] at h
  cases h
  rw [CmdResult.complete_frame]
  exact bodyOf_cwBits i p s

/-! ### The other live operand registers -/

/-- The other live operand registers are kept through a completion, and all that is not live comes out the same. -/
theorem withLive_carried (v : BitVec 6) (lv : BitVec 2) (a0 a1 a2 : Word) :
    Carried fun s u => ∃ cb, u = s.withLive v lv a0 a1 a2 cb where
  effect e s u h := by
    obtain ⟨cb, rfl⟩ := h
    cases e with
    | cwBits n => exact ⟨n, rfl⟩
    | _ => exact ⟨cb, rfl⟩
  ok h := by
    obtain ⟨cb, rfl⟩ := h
    exact ⟨cb, rfl⟩
  err e s u h := by
    obtain ⟨cb, rfl⟩ := h
    exact ⟨cb, rfl⟩

/-- Settles O6: what differs is carried through the completion, and CW_BITS after it is known from PEND. -/
theorem operandsComeFromPend : Obligations.OperandsComeFromPend := by
  intro i s p hp
  refine ⟨(bodyOf i p s).complete, setsCwBits i p, fun hw => ?writes, fun v lv a0 a1 a2 cb => ?completes⟩
  case writes => exact (Bool.and_eq_true_iff.1 hw).1
  case completes =>
    obtain ⟨t, _, ht, hu, ⟨cb', rfl⟩, _⟩ := exec_carried (withLive_carried v lv a0 a1 a2) i
      (u := s.withLive v lv a0 a1 a2 cb) hp hp (fun _ _ => rfl) ⟨cb, rfl⟩
    obtain rfl : (bodyOf i p s).complete = t := by
      rw [exec_pending hp] at ht
      injection ht
    have hcb : cb' = if setsCwBits i p then (bodyOf i p s).complete.cwBits else cb := by
      refine (exec_cwBits (s := s.withLive v lv a0 a1 a2 cb) hp hu).trans ?_
      rw [exec_cwBits hp ht]
      split_ifs <;> rfl
    rw [hu, hcb]

end Sys2Proof.Machine
end

section
/-! SUPPORT. The capacity family: completions with results or BAD_VERSION, packed words, and what the capacity and symbol
ROMs hold (spec/40_capacity_lut.md R201 to R206, spec/30_encoding.md R162). -/

namespace Sys2Proof.Machine

/-! ### Completions of a command that checks VERSION and writes the RES registers -/

theorem State.completeOk_setResults (s : State) (r0 r1 r2 r3 : Word) :
    (s.setResults r0 r1 r2 r3).completeOk = s.succeeded ⟨r0, r1, r2, r3⟩ := rfl

theorem Pend.versionOk_iff_inRange {p : Pend} : versionOk p.v = true ↔ p.VersionInRange := versionOk_iff p.v

/-- Past the version check a command completes by the rest of its rule. -/
theorem exec_inRange {i : Instr} {s : State} {p : Pend} {k : CmdResult} (hp : s.pend = some p)
    (hbody : bodyOf i p s = checkVersion p s k) (hv : p.VersionInRange) : exec i s = .next k.complete := by
  rw [exec_pending hp, hbody, checkVersion_ok (Pend.versionOk_iff_inRange.2 hv)]

theorem exec_outOfRange {i : Instr} {s : State} {p : Pend} {k : CmdResult} (hp : s.pend = some p)
    (hbody : bodyOf i p s = checkVersion p s k) (hv : ¬p.VersionInRange) : exec i s = .next (s.erred 0x02#8) := by
  have hbad : versionOk p.v = false := eq_false_of_ne_true fun hok => hv (Pend.versionOk_iff_inRange.1 hok)
  rw [exec_pending hp, hbody, checkVersion_bad hbad]
  rfl

/-- A command that checks VERSION and answers in the RES registers. -/
theorem exec_results_inRange {i : Instr} {s : State} {p : Pend} {r0 r1 r2 r3 : Word} (hp : s.pend = some p)
    (hbody : bodyOf i p s = checkVersion p s (.done (s.setResults r0 r1 r2 r3))) (hv : p.VersionInRange) :
    exec i s = .next (s.succeeded ⟨r0, r1, r2, r3⟩) :=
  exec_inRange hp hbody hv

/-- A command that has no check and answers in the RES registers. -/
theorem exec_results {i : Instr} {s : State} {p : Pend} {r0 r1 r2 r3 : Word} (hp : s.pend = some p)
    (hbody : bodyOf i p s = .done (s.setResults r0 r1 r2 r3)) :
    exec i s = .next (s.succeeded ⟨r0, r1, r2, r3⟩) := by
  rw [exec_pending hp, hbody, CmdResult.complete_done, State.completeOk_setResults]

/-! ### CAP_VER's second check (R206) -/

theorem bodyCapVer_of_lt_seven {p : Pend} (h : p.v < 7) (s : State) :
    bodyCapVer p s = checkVersion p s (.failed .badArg s) := by
  rw [bodyCapVer, if_pos h]

theorem bodyCapVer_of_seven_le {p : Pend} (h : 7 ≤ p.v) (s : State) :
    bodyCapVer p s = checkVersion p s (.done (s.setResults (BitVec.ofNat 32 (versionInfo p.v)) 0#32 0#32 0#32)) := by
  rw [bodyCapVer, if_neg (Nat.not_lt.2 h)]

/-! ### Operand fields (R160) -/

theorem Pend.mode_eq (p : Pend) : p.mode = p.arg0.toNat % 4 := by
  rw [Pend.mode, BitVec.extractLsb'_toNat, Nat.shiftRight_zero]

theorem Pend.mask_eq (p : Pend) : p.mask = p.arg0.toNat % 8 := by
  rw [Pend.mask, BitVec.extractLsb'_toNat, Nat.shiftRight_zero]

theorem Pend.mode_lt (p : Pend) : p.mode < 4 := BitVec.isLt _

theorem Pend.mask_lt (p : Pend) : p.mask < 8 := BitVec.isLt _

/-! ### Packed words (R162): fields that fit are kept whole -/

theorem toNat_ofNat_word {x : Nat} (h : x < 2 ^ 32) : (BitVec.ofNat 32 x).toNat = x :=
  (BitVec.toNat_ofNat _ _).trans (Nat.mod_eq_of_lt h)

theorem pack8_eq_ofNat {b3 b2 b1 b0 : Nat} (h3 : b3 < 256) (h2 : b2 < 256) (h1 : b1 < 256) (h0 : b0 < 256) :
    pack8 b3 b2 b1 b0 = BitVec.ofNat 32 (b3 * 0x1000000 + b2 * 0x10000 + b1 * 0x100 + b0) := by
  rw [pack8, Nat.mod_eq_of_lt h3, Nat.mod_eq_of_lt h2, Nat.mod_eq_of_lt h1, Nat.mod_eq_of_lt h0]

theorem toNat_pack8 {b3 b2 b1 b0 : Nat} (h3 : b3 < 256) (h2 : b2 < 256) (h1 : b1 < 256) (h0 : b0 < 256) :
    (pack8 b3 b2 b1 b0).toNat = b3 * 0x1000000 + b2 * 0x10000 + b1 * 0x100 + b0 := by
  rw [pack8_eq_ofNat h3 h2 h1 h0, BitVec.toNat_ofNat]
  omega

theorem lanes_pack8 {b3 b2 b1 b0 : Nat} (h3 : b3 < 256) (h2 : b2 < 256) (h1 : b1 < 256) (h0 : b0 < 256) :
    ((pack8 b3 b2 b1 b0).extractLsb' 24 8).toNat = b3 ∧ ((pack8 b3 b2 b1 b0).extractLsb' 16 8).toNat = b2 ∧
      ((pack8 b3 b2 b1 b0).extractLsb' 8 8).toNat = b1 ∧ ((pack8 b3 b2 b1 b0).extractLsb' 0 8).toNat = b0 := by
  have hword := toNat_pack8 h3 h2 h1 h0
  refine ⟨?_, ?_, ?_, ?_⟩ <;> rw [BitVec.extractLsb'_toNat, Nat.shiftRight_eq_div_pow, hword] <;> omega

theorem halves_pack16 {hi lo : Nat} (hhi : hi < 65536) (hlo : lo < 65536) :
    ((pack16 hi lo).extractLsb' 16 16).toNat = hi ∧ ((pack16 hi lo).extractLsb' 0 16).toNat = lo := by
  have hword : (pack16 hi lo).toNat = hi * 65536 + lo := by
    rw [pack16, BitVec.toNat_ofNat]
    omega
  constructor <;> rw [BitVec.extractLsb'_toNat, Nat.shiftRight_eq_div_pow, hword] <;> omega

/-! ### What the ROMs hold -/

/-- A property checked at every row of a version's table holds of every version in range. -/
theorem of_every_version {P : Nat → Prop} (rows : ∀ v < 41, P v) : ∀ v, versionOk v = true → P v :=
  fun v hv => rows v (Nat.lt_succ_of_le ((versionOk_iff v).1 hv).2)

/-- The widths R202 states, with the largest entries of the other columns. -/
theorem cap_geometry_le : ∀ v, versionOk v = true → ∀ lv < 4,
    (cap lv v).ec ≤ 30 ∧ (cap lv v).dataCW ≤ 2956 ∧ (cap lv v).g1Data ≤ 123 ∧ (cap lv v).g2Data ≤ 123 ∧
      (cap lv v).blocks ≤ 81 ∧ (cap lv v).totalCW ≤ 3706 :=
  of_every_version (by decide)

/-- No symbol holds more characters than 40-L holds digits. -/
theorem cap_chars_le : ∀ v, versionOk v = true → ∀ lv < 4, ∀ mode < 4, (cap lv v).chars mode ≤ 7089 :=
  of_every_version (by decide)

theorem align_fits : ∀ v, versionOk v = true → (align v).length ≤ 7 ∧ ∀ k < 7, (align v).getD k 0 < 256 :=
  of_every_version (by decide)

theorem remainderBits_le {v : Nat} (hv : versionOk v = true) : remainderBits v ≤ 8 :=
  let ⟨_, _, _, hrem⟩ := cap_adds_up (lv := 0) (by decide) hv
  hrem

theorem size_lt_256 {v : Nat} (hv : versionOk v = true) : size v < 256 := by
  have := (versionOk_iff v).1 hv
  unfold size
  omega

/-- A mode's indicator is one-hot in the order of the mode codes (R214). -/
theorem modeIndicator_eq_two_pow : ∀ mode < 4, modeIndicator mode = 2 ^ mode := by decide

/-- The count widths by mode and version, tier boundaries inclusive (R204, R214). -/
theorem cci_eq {mode : Nat} (hmode : mode < 4) (v : Nat) :
    cci mode v =
      if mode = 0 then (if v ≤ 9 then 10 else if v ≤ 26 then 12 else 14)
      else if mode = 1 then (if v ≤ 9 then 9 else if v ≤ 26 then 11 else 13)
      else if mode = 2 then (if v ≤ 9 then 8 else 16)
      else (if v ≤ 9 then 8 else if v ≤ 26 then 10 else 12) := by
  by_cases h9 : v ≤ 9
  · simp only [cci, tier, h9, if_true]
    interval_cases mode <;> rfl
  · by_cases h26 : v ≤ 26
    · simp only [cci, tier, h9, h26, if_true, if_false]
      interval_cases mode <;> rfl
    · simp only [cci, tier, h9, h26, if_false]
      interval_cases mode <;> rfl

theorem cci_le {mode : Nat} (hmode : mode < 4) (v : Nat) : cci mode v ≤ 16 := by
  rw [cci_eq hmode]
  split_ifs <;> decide

theorem pack8_cci {mode : Nat} (hmode : mode < 4) (v : Nat) :
    pack8 0 0 (modeIndicator mode) (cci mode v) = BitVec.ofNat 32 (2 ^ mode * 256 + cci mode v) := by
  have hpow : 2 ^ mode < 256 := (Nat.pow_lt_pow_right (by decide) hmode).trans (by decide)
  have hcci : cci mode v < 256 := (cci_le hmode v).trans_lt (by decide)
  rw [modeIndicator_eq_two_pow mode hmode, pack8_eq_ofNat (by decide) (by decide) hpow hcci, Nat.zero_mul, Nat.zero_add]

/-- FORMAT's entries fit 15 bits and are the masked BCH code words of level code and mask (R382, R383). -/
theorem formatInfo_eq_bch : ∀ lv < 4, ∀ m < 8, formatInfo lv m < 2 ^ 15 ∧
    (let d := (if lv = 0 then 1 else if lv = 1 then 0 else if lv = 2 then 3 else 2) * 8 + m
     formatInfo lv m = (d * 1024 + gf2Mod 10 0x537 5 (d * 1024)) ^^^ 0x5412) := by decide

/-- VERSION_INFO's entries are the BCH code words of the versions (R330). -/
theorem versionInfo_eq_bch : ∀ v, versionOk v = true →
    7 ≤ v → versionInfo v < 2 ^ 18 ∧ versionInfo v = v * 4096 + gf2Mod 12 0x1F25 6 (v * 4096) :=
  of_every_version (by decide)

/-! ### The obligations -/

/-- Settles O20: the count is far below a word's range. -/
theorem capCharsResult : Obligations.CapCharsResult := by
  intro s p hp
  refine ⟨fun hv => ⟨_, exec_results_inRange hp rfl hv, ?count, rfl, rfl, rfl⟩, exec_outOfRange hp rfl⟩
  have hle := cap_chars_le p.v (Pend.versionOk_iff_inRange.2 hv) p.lv p.lv_lt p.mode p.mode_lt
  refine (toNat_ofNat_word (hle.trans_lt (by decide))).trans ?_
  rw [Pend.mode_eq]
  rfl

/-- Settles O21: every field of the entry fits, so that its packing keeps it. -/
theorem capGeomResult : Obligations.CapGeomResult := by
  intro s p hp
  refine ⟨fun hv => ?_, exec_outOfRange hp rfl⟩
  have hok := Pend.versionOk_iff_inRange.2 hv
  obtain ⟨hec, hdata, hg1, hg2, hblocks, htotal⟩ := cap_geometry_le p.v hok p.lv p.lv_lt
  obtain ⟨hsum, _⟩ := cap_adds_up p.lv_lt hok
  obtain ⟨hec', hdata'⟩ := halves_pack16 (hec.trans_lt (by decide)) (hdata.trans_lt (by decide))
  obtain ⟨hg2', hn2', hg1', hn1'⟩ := lanes_pack8 (hg2.trans_lt (by decide)) (b2 := (cap p.lv p.v).g2Blocks) (by omega)
    (hg1.trans_lt (by decide)) (b0 := (cap p.lv p.v).g1Blocks) (by omega)
  obtain ⟨hblocks', htotal'⟩ := halves_pack16 (hblocks.trans_lt (by decide)) (htotal.trans_lt (by decide))
  exact ⟨_, exec_results_inRange hp rfl hv, hec', hdata', hg2', hn2', hg1', hn1', hblocks', htotal', rfl⟩

/-- Settles O22: every version's coordinates, remainder bits and size fit their bytes. -/
theorem capInfoResult : Obligations.CapInfoResult := by
  intro s p hp
  refine ⟨fun hv => ?_, exec_outOfRange hp rfl⟩
  have hok := Pend.versionOk_iff_inRange.2 hv
  obtain ⟨hlength, hcoord⟩ := align_fits p.v hok
  have hrem := remainderBits_le hok
  have hr0 := toNat_pack8 (b3 := 0) (by decide) (hlength.trans_lt (by decide)) (hrem.trans_lt (by decide))
    (size_lt_256 hok)
  have hr1 := toNat_pack8 (hcoord 3 (by decide)) (hcoord 2 (by decide)) (hcoord 1 (by decide)) (hcoord 0 (by decide))
  have hr2 := toNat_pack8 (b3 := 0) (by decide) (hcoord 6 (by decide)) (hcoord 5 (by decide)) (hcoord 4 (by decide))
  rw [Nat.zero_mul, Nat.zero_add] at hr0 hr2
  exact ⟨_, exec_results_inRange hp rfl hv, hr0, hr1, hr2, rfl, hlength⟩

/-- Settles O23: indicator and width are those of R214's tables, and they fit their bytes. -/
theorem capCciResult : Obligations.CapCciResult := by
  intro s p hp v mode width
  refine ⟨fun hv => ?_, exec_outOfRange hp rfl⟩
  have hmode : mode < 4 := Nat.mod_lt _ (by decide)
  have hword : pack8 0 0 (modeIndicator p.mode) (cci p.mode p.v) = BitVec.ofNat 32 (2 ^ mode * 256 + width) := by
    rw [Pend.mode_eq, pack8_cci hmode, cci_eq hmode]
    rfl
  rw [← hword]
  exact exec_results_inRange hp rfl hv

/-- Settles O24: no check precedes the result, and every entry of FORMAT is such a code word. -/
theorem capFmtResult : Obligations.CapFmtResult := by
  intro s p hp
  obtain ⟨hlt, hbch⟩ := formatInfo_eq_bch p.lv p.lv_lt p.mask p.mask_lt
  have hr0 : (BitVec.ofNat 32 (formatInfo p.lv p.mask)).toNat = formatInfo p.lv p.mask :=
    toNat_ofNat_word (hlt.trans (by decide))
  rw [Pend.mask_eq] at hbch
  refine ⟨_, exec_results hp rfl, rfl, rfl, rfl, ?rom, ?bch⟩
  case rom =>
    rw [hr0, Pend.mask_eq]
    rfl
  case bch =>
    rw [hr0, Pend.mask_eq]
    exact hbch

/-- Settles O25: the version check comes first, then the check for version information. -/
theorem capVerResult : Obligations.CapVerResult := by
  intro s p hp v
  refine ⟨fun hv => ?result, fun hv => ?tooSmall, exec_outOfRange hp rfl⟩
  case result =>
    have hin : p.VersionInRange := ⟨by omega, hv.2⟩
    obtain ⟨hlt, hbch⟩ := versionInfo_eq_bch p.v (Pend.versionOk_iff_inRange.2 hin) hv.1
    refine ⟨_, exec_results_inRange hp (bodyCapVer_of_seven_le hv.1 s) hin, ?_, hbch, rfl, rfl, rfl⟩
    exact toNat_ofNat_word (hlt.trans (by decide))
  case tooSmall =>
    exact exec_inRange (i := .capVer) hp (bodyCapVer_of_lt_seven (Nat.lt_succ_of_le hv.2) s) ⟨hv.1, by omega⟩

end Sys2Proof.Machine
end

section
/-! SUPPORT. GF(256): what the antilog and log ROMs hold, the field laws, and the product by logarithms as the product
of polynomials modulo 0x11D (spec/41_reed_solomon.md R250 to R253). -/

namespace Sys2Proof.Machine

/-! ### The ROMs (R251) -/

/-- A byte times α, modulo 0x11D. -/
def timesAlpha (x : Byte) : Byte := (x <<< 1) ^^^ (if x.msb then 0x1D#8 else 0#8)

theorem gfExp_zero : gfExp 0 = 1#8 := rfl

/-- A property checked along a table's 16 rows and 16 columns holds of every index below the table's end. -/
theorem of_every_index {P : Nat → Prop} {n : Nat} (hn : n ≤ 256)
    (rows : ∀ row < 16, ∀ col < 16, 16 * row + col < n → P (16 * row + col)) : ∀ i < n, P i := by
  intro i hi
  have h := rows (i / 16) (by omega) (i % 16) (by omega)
  rw [Nat.div_add_mod] at h
  exact h hi

theorem toNat_gfExp_succ : ∀ i, i < 254 → (gfExp (i + 1)).toNat =
    (2 * (gfExp i).toNat) ^^^ (if 2 * (gfExp i).toNat ≥ 256 then 0x11D else 0) :=
  of_every_index (by decide) (by decide)

/-- The powers of α below the 255th are not 0, the logarithm gives their exponent, and times α they are a cycle. -/
theorem gfExp_powers : ∀ i < 255,
    gfExp i ≠ 0#8 ∧ gfLog (gfExp i) = i ∧ timesAlpha (gfExp i) = gfExp ((i + 1) % 255) :=
  of_every_index (by decide) (by decide)

theorem gfExp_ne_zero {i : Nat} (hi : i < 255) : gfExp i ≠ 0#8 :=
  let ⟨hne, _⟩ := gfExp_powers i hi
  hne

theorem gfLog_gfExp {i : Nat} (hi : i < 255) : gfLog (gfExp i) = i :=
  let ⟨_, hlog, _⟩ := gfExp_powers i hi
  hlog

theorem timesAlpha_gfExp {i : Nat} (hi : i < 255) : timesAlpha (gfExp i) = gfExp ((i + 1) % 255) :=
  let ⟨_, _, hcycle⟩ := gfExp_powers i hi
  hcycle

/-- The logarithm is below 255 and its power is the byte, 0 alone excepted. -/
theorem gfExp_gfLog : ∀ a : Byte, a ≠ 0#8 → gfLog a < 255 ∧ gfExp (gfLog a) = a := by decide

/-- A byte is 0 or one of the powers of α. -/
theorem eq_zero_or_eq_gfExp (a : Byte) : a = 0#8 ∨ ∃ i < 255, a = gfExp i := by
  by_cases ha : a = 0#8
  · exact .inl ha
  · obtain ⟨hlt, hpow⟩ := gfExp_gfLog a ha
    exact .inr ⟨gfLog a, hlt, hpow.symm⟩

/-! ### The product by logarithms (R252, R253) -/

@[simp] theorem gfMul_zero_left (a : Byte) : gfMul 0#8 a = 0#8 := by simp [gfMul]

@[simp] theorem gfMul_zero_right (a : Byte) : gfMul a 0#8 = 0#8 := by simp [gfMul]

theorem gfMul_gfExp {i j : Nat} (hi : i < 255) (hj : j < 255) : gfMul (gfExp i) (gfExp j) = gfExp ((i + j) % 255) := by
  simp only [gfMul, gfExp_ne_zero hi, gfExp_ne_zero hj, or_self, if_false, gfLog_gfExp hi, gfLog_gfExp hj]

theorem gfMul_comm (a b : Byte) : gfMul a b = gfMul b a := by
  simp only [gfMul, or_comm, Nat.add_comm]

theorem gfMul_assoc (a b c : Byte) : gfMul (gfMul a b) c = gfMul a (gfMul b c) := by
  rcases eq_zero_or_eq_gfExp a with rfl | ⟨i, hi, rfl⟩
  · simp
  rcases eq_zero_or_eq_gfExp b with rfl | ⟨j, hj, rfl⟩
  · simp
  rcases eq_zero_or_eq_gfExp c with rfl | ⟨k, hk, rfl⟩
  · simp
  have hmod (x : Nat) : x % 255 < 255 := Nat.mod_lt x (by decide)
  rw [gfMul_gfExp hi hj, gfMul_gfExp (hmod _) hk, gfMul_gfExp hj hk, gfMul_gfExp hi (hmod _), Nat.mod_add_mod,
    Nat.add_mod_mod, Nat.add_assoc]

@[simp] theorem gfMul_one_left (a : Byte) : gfMul 1#8 a = a := by
  rcases eq_zero_or_eq_gfExp a with rfl | ⟨i, hi, rfl⟩
  · rfl
  · rw [← gfExp_zero, gfMul_gfExp (by decide) hi, Nat.zero_add, Nat.mod_eq_of_lt hi]

@[simp] theorem gfMul_one_right (a : Byte) : gfMul a 1#8 = a := by
  rw [gfMul_comm, gfMul_one_left]

/-- R253's inverse. -/
theorem gfMul_inverse {a : Byte} (ha : a ≠ 0#8) : gfMul a (gfExp ((255 - gfLog a) % 255)) = 1#8 := by
  obtain ⟨hlt, hpow⟩ := gfExp_gfLog a ha
  have hcycle : (gfLog a + (255 - gfLog a) % 255) % 255 = 0 := by omega
  calc gfMul a (gfExp ((255 - gfLog a) % 255))
      = gfMul (gfExp (gfLog a)) (gfExp ((255 - gfLog a) % 255)) := by rw [hpow]
    _ = 1#8 := by rw [gfMul_gfExp hlt (Nat.mod_lt _ (by decide)), hcycle, gfExp_zero]

/-! ### Distributivity: a product by α^k is k products by α -/

theorem timesAlpha_xor (x y : Byte) : timesAlpha (x ^^^ y) = timesAlpha x ^^^ timesAlpha y := by
  have hreduce : (if (x ^^^ y).msb then 0x1D#8 else 0#8) =
      (if x.msb then 0x1D#8 else 0#8) ^^^ (if y.msb then 0x1D#8 else 0#8) := by
    rw [BitVec.msb_xor]
    cases x.msb <;> cases y.msb <;> rfl
  rw [timesAlpha, timesAlpha, timesAlpha, hreduce, BitVec.shiftLeft_xor_distrib]
  ac_rfl

theorem iterate_timesAlpha_xor (k : Nat) (x y : Byte) :
    timesAlpha^[k] (x ^^^ y) = timesAlpha^[k] x ^^^ timesAlpha^[k] y := by
  induction k with
  | zero => rfl
  | succ k ih => simp only [Function.iterate_succ_apply', ih, timesAlpha_xor]

theorem gfMul_gfExp_eq_iterate {k : Nat} (hk : k < 255) (b : Byte) : gfMul (gfExp k) b = timesAlpha^[k] b := by
  induction k with
  | zero => exact gfMul_one_left b
  | succ k ih =>
    rw [Function.iterate_succ_apply', ← ih (by omega)]
    rcases eq_zero_or_eq_gfExp b with rfl | ⟨j, hj, rfl⟩
    · simp [timesAlpha]
    · have hmod (x : Nat) : x % 255 < 255 := Nat.mod_lt x (by decide)
      rw [gfMul_gfExp hk hj, gfMul_gfExp (by omega) hj, timesAlpha_gfExp (hmod _), Nat.mod_add_mod, Nat.add_right_comm]

theorem gfMul_xor (a b c : Byte) : gfMul a (b ^^^ c) = gfMul a b ^^^ gfMul a c := by
  rcases eq_zero_or_eq_gfExp a with rfl | ⟨k, hk, rfl⟩
  · simp
  · simp only [gfMul_gfExp_eq_iterate hk, iterate_timesAlpha_xor]

theorem xor_gfMul (a b c : Byte) : gfMul (a ^^^ b) c = gfMul a c ^^^ gfMul b c := by
  rw [gfMul_comm, gfMul_xor, gfMul_comm c a, gfMul_comm c b]

/-! ### The product of polynomials (R250): both products are additive in each factor, and agree on the bits -/

/-- The XOR of `f i` over the bits of a byte that are 1. -/
def xorBits (b : Byte) (f : Nat → Nat) : Nat :=
  (List.range 8).foldl (fun acc i => if b.getLsbD i then acc ^^^ f i else acc) 0

theorem gf2Product_eq_xorBits (a b : Byte) : gf2Product a b = xorBits b fun i => a.toNat <<< i := rfl

/-- Bit `i` alone is α^i. -/
theorem toNat_eq_xorBits : ∀ b : Byte, b.toNat = xorBits b fun i => (gfExp i).toNat := by decide

theorem xorBits_congr {b : Byte} {f g : Nat → Nat} (h : ∀ i < 8, f i = g i) : xorBits b f = xorBits b g :=
  List.foldl_ext _ _ _ fun acc i hi => by rw [h i (List.mem_range.1 hi)]

/-- What is additive goes under the XOR of the bits. -/
theorem map_xorBits {h : Nat → Nat} (hxor : ∀ x y, h (x ^^^ y) = h x ^^^ h y) (b : Byte) (f : Nat → Nat) :
    h (xorBits b f) = xorBits b fun i => h (f i) := by
  have hzero : h 0 = 0 := by
    have := hxor 0 0
    rwa [Nat.xor_self, Nat.xor_self] at this
  rw [xorBits, xorBits]
  refine Eq.trans (List.foldl_hom h fun acc i => ?_).symm (by rw [hzero])
  split
  · exact (hxor _ _).symm
  · rfl

/-- An additive function of a byte is the XOR of its values on the bits. -/
theorem additive_eq_xorBits {F : Byte → Nat} (hxor : ∀ x y, F (x ^^^ y) = F x ^^^ F y) (b : Byte) :
    F b = xorBits b fun i => F (gfExp i) := by
  have h := map_xorBits (h := fun x => F (BitVec.ofNat 8 x)) (fun x y => by rw [BitVec.ofNat_xor, hxor]) b
    fun i => (gfExp i).toNat
  simpa only [← toNat_eq_xorBits, BitVec.ofNat_toNat, BitVec.setWidth_eq] using h

theorem gf2Mod_xor (deg g k x y : Nat) : gf2Mod deg g k (x ^^^ y) = gf2Mod deg g k x ^^^ gf2Mod deg g k y := by
  induction k generalizing x y with
  | zero => rfl
  | succ k ih =>
    simp only [gf2Mod, Nat.testBit_xor, ← ih]
    cases x.testBit (k + deg) <;> cases y.testBit (k + deg) <;> simp [Nat.xor_comm, Nat.xor_left_comm]

/-- A byte shifted up and reduced is the byte times a power of α. -/
theorem gf2Mod_shiftLeft (a : Byte) {i : Nat} (hi : i < 8) :
    gf2Mod 8 0x11D 7 (a.toNat <<< i) = (gfMul a (gfExp i)).toNat := by
  have hbits : ∀ i < 8, ∀ j < 8,
      gf2Mod 8 0x11D 7 ((gfExp j).toNat <<< i) = (gfMul (gfExp j) (gfExp i)).toNat := by decide
  rw [additive_eq_xorBits (F := fun x => gf2Mod 8 0x11D 7 (x.toNat <<< i))
      (fun x y => by rw [BitVec.toNat_xor, Nat.shiftLeft_xor_distrib, gf2Mod_xor]) a,
    additive_eq_xorBits (F := fun x => (gfMul x (gfExp i)).toNat) (fun x y => by rw [xor_gfMul, BitVec.toNat_xor]) a]
  exact xorBits_congr (hbits i hi)

theorem toNat_gfMul (a b : Byte) : (gfMul a b).toNat = gf2Mod 8 0x11D 7 (gf2Product a b) := by
  calc (gfMul a b).toNat
      = xorBits b fun i => (gfMul a (gfExp i)).toNat :=
        additive_eq_xorBits (F := fun x => (gfMul a x).toNat) (fun x y => by rw [gfMul_xor, BitVec.toNat_xor]) b
    _ = xorBits b fun i => gf2Mod 8 0x11D 7 (a.toNat <<< i) := xorBits_congr fun i hi => (gf2Mod_shiftLeft a hi).symm
    _ = gf2Mod 8 0x11D 7 (gf2Product a b) := by rw [gf2Product_eq_xorBits, map_xorBits (gf2Mod_xor 8 0x11D 7)]

/-- Settles O48: the laws of the products of powers, and the product of polynomials by additivity in each factor. -/
theorem fieldLaws : Obligations.FieldLaws :=
  ⟨toNat_gfMul, gfMul_comm, gfMul_assoc, gfMul_xor,
    fun a b c => ⟨BitVec.xor_comm a b, BitVec.xor_assoc a b c, BitVec.xor_zero, BitVec.xor_self⟩,
    fun a => ⟨gfMul_one_left a, gfMul_zero_right a⟩, fun _ ha => gfMul_inverse ha⟩

end Sys2Proof.Machine
end

section
/-! SUPPORT. Polynomials over GF(256): their values, the generators by their roots, and the division
(spec/41_reed_solomon.md R254 to R257). -/

namespace Sys2Proof.Machine

/-! ### Values of polynomials, by Horner's rule -/

/-- The value at `x` of a polynomial whose higher coefficients have the value `acc`. -/
def hornerFrom (x acc : Byte) (c : List Byte) : Byte := c.foldl (fun acc k => gfMul acc x ^^^ k) acc

theorem evalPoly_eq_hornerFrom (c : List Byte) (x : Byte) : evalPoly c x = hornerFrom x 0#8 c := rfl

@[simp] theorem hornerFrom_nil (x acc : Byte) : hornerFrom x acc [] = acc := rfl

@[simp] theorem hornerFrom_cons (x acc k : Byte) (c : List Byte) :
    hornerFrom x acc (k :: c) = hornerFrom x (gfMul acc x ^^^ k) c := rfl

theorem evalPoly_cons (k : Byte) (c : List Byte) (x : Byte) : evalPoly (k :: c) x = hornerFrom x k c := by
  rw [evalPoly_eq_hornerFrom, hornerFrom_cons, gfMul_zero_left, BitVec.zero_xor]

theorem evalPoly_append_singleton (c : List Byte) (k x : Byte) : evalPoly (c ++ [k]) x = gfMul (evalPoly c x) x ^^^ k :=
  List.foldl_append

theorem evalPoly_replicate_append (k : Nat) (c : List Byte) (x : Byte) :
    evalPoly (List.replicate k 0#8 ++ c) x = evalPoly c x := by
  induction k with
  | zero => rfl
  | succ k ih =>
    rw [List.replicate_succ, List.cons_append, evalPoly_cons]
    exact ih

/-- One step of Horner's rule is additive. -/
theorem horner_xor (x a b c d : Byte) :
    gfMul (a ^^^ b) x ^^^ (c ^^^ d) = (gfMul a x ^^^ c) ^^^ (gfMul b x ^^^ d) := by
  rw [xor_gfMul]
  ac_rfl

theorem hornerFrom_zipWith_xor (x : Byte) {c d : List Byte} (h : c.length = d.length) (a b : Byte) :
    hornerFrom x (a ^^^ b) (List.zipWith (· ^^^ ·) c d) = hornerFrom x a c ^^^ hornerFrom x b d := by
  induction c generalizing d a b with
  | nil =>
    rw [List.eq_nil_of_length_eq_zero h.symm]
    rfl
  | cons k c ih =>
    cases d with
    | nil => simp at h
    | cons l d =>
      rw [List.zipWith_cons_cons, hornerFrom_cons, horner_xor, ih (Nat.succ.inj h)]
      rfl

/-- A part of the higher coefficients' value counts as if the lower ones were 0. -/
theorem hornerFrom_xor (x a b : Byte) (d : List Byte) :
    hornerFrom x (a ^^^ b) d = hornerFrom x a (List.replicate d.length 0#8) ^^^ hornerFrom x b d := by
  induction d generalizing a b with
  | nil => rfl
  | cons k d ih =>
    rw [hornerFrom_cons, ← BitVec.zero_xor (x := k), horner_xor, ih, BitVec.zero_xor]
    rfl

/-- The value of a concatenation: the first part moved up, plus the second. -/
theorem evalPoly_append (c d : List Byte) (x : Byte) :
    evalPoly (c ++ d) x = evalPoly (c ++ List.replicate d.length 0#8) x ^^^ evalPoly d x := by
  have happend (e : List Byte) : evalPoly (c ++ e) x = hornerFrom x (evalPoly c x) e := List.foldl_append
  have hsplit := hornerFrom_xor x (evalPoly c x) 0#8 d
  rwa [BitVec.xor_zero, ← happend, ← happend] at hsplit

/-- Values are additive. -/
theorem evalPoly_zipWith_xor {c d : List Byte} (h : c.length = d.length) (x : Byte) :
    evalPoly (List.zipWith (· ^^^ ·) c d) x = evalPoly c x ^^^ evalPoly d x :=
  hornerFrom_zipWith_xor x h 0#8 0#8

/-- A scaled polynomial has the scaled value. -/
theorem hornerFrom_map_gfMul (x y acc : Byte) (c : List Byte) :
    hornerFrom x (gfMul y acc) (c.map (gfMul y)) = gfMul y (hornerFrom x acc c) := by
  induction c generalizing acc with
  | nil => rfl
  | cons k c ih => rw [List.map_cons, hornerFrom_cons, gfMul_assoc, ← gfMul_xor, ih, hornerFrom_cons]

/-! ### The generators (R254) -/

theorem evalPoly_timesRoot (g : List Byte) (r x : Byte) :
    evalPoly (timesRoot g r) x = gfMul (evalPoly g x) x ^^^ gfMul r (evalPoly g x) := by
  have hlow : evalPoly (0#8 :: g.map (gfMul r)) x = gfMul r (evalPoly g x) := by
    rw [evalPoly_cons, ← gfMul_zero_right r, hornerFrom_map_gfMul, evalPoly_eq_hornerFrom]
  rw [timesRoot, evalPoly_zipWith_xor (by simp), evalPoly_append_singleton, hlow, BitVec.xor_zero]

theorem genPoly_one : genPoly 1 = timesRoot [1#8] (gfExp 0) := by decide

/-- Each row of the ROM is the row before, times one more linear factor. -/
theorem genPoly_succ {n : Nat} (h1 : 1 ≤ n) (h30 : n < 30) : genPoly (n + 1) = timesRoot (genPoly n) (gfExp n) := by
  have rows : ∀ n < 30, 1 ≤ n → genPoly (n + 1) = timesRoot (genPoly n) (gfExp n) := by decide
  exact rows n h30 h1

theorem genPoly_coefficients {n : Nat} (h1 : 1 ≤ n) (h30 : n ≤ 30) :
    (genPoly n).length = n + 1 ∧ (genPoly n)[0]? = some 1#8 ∧ 0#8 ∉ genPoly n := by
  have rows : ∀ n < 31, 1 ≤ n → (genPoly n).length = n + 1 ∧ (genPoly n)[0]? = some 1#8 ∧ 0#8 ∉ genPoly n := by decide
  exact rows n (Nat.lt_succ_of_le h30) h1

theorem genPoly_eq_product {n : Nat} (h1 : 1 ≤ n) (h30 : n ≤ 30) :
    genPoly n = (List.range n).foldl (fun g i => timesRoot g (gfExp i)) [1#8] := by
  induction n, h1 using Nat.le_induction with
  | base => exact genPoly_one
  | succ n h1 ih =>
    rw [genPoly_succ h1 h30, List.range_succ, List.foldl_append, ← ih (by omega)]
    rfl

/-- Every generator is monic, of its degree. -/
theorem genPoly_eq_cons {n : Nat} (h1 : 1 ≤ n) (h30 : n ≤ 30) : ∃ gs, genPoly n = 1#8 :: gs ∧ gs.length = n := by
  obtain ⟨hlength, hlead, _⟩ := genPoly_coefficients h1 h30
  cases hgen : genPoly n with
  | nil => simp [hgen] at hlength
  | cons g gs =>
    rw [hgen] at hlength hlead
    exact ⟨gs, by rw [Option.some.inj hlead], Nat.succ.inj hlength⟩

theorem evalPoly_genPoly {n i : Nat} (h1 : 1 ≤ n) (h30 : n ≤ 30) (hi : i < n) :
    evalPoly (genPoly n) (gfExp i) = 0#8 := by
  induction n, h1 using Nat.le_induction with
  | base =>
    obtain rfl : i = 0 := by omega
    decide
  | succ n h1 ih =>
    rw [genPoly_succ h1 h30, evalPoly_timesRoot]
    by_cases hlast : i = n
    · rw [hlast, gfMul_comm, BitVec.xor_self]
    · rw [ih (by omega) (by omega), gfMul_zero_left, gfMul_zero_right, BitVec.xor_self]

/-- Settles O49: row by row, each the row before times one more factor. -/
theorem generatorsAreProducts : Obligations.GeneratorsAreProducts :=
  fun _ h1 h30 => ⟨genPoly_eq_product h1 h30, genPoly_coefficients h1 h30⟩

/-! ### The division (R256) -/

theorem xorInto_map_zero (g d : List Byte) : xorInto (g.map (gfMul 0#8)) d = d := by
  induction g generalizing d with
  | nil => rfl
  | cons k g ih =>
    cases d with
    | nil => rfl
    | cons y d => rw [List.map_cons, xorInto, ih, gfMul_zero_left, BitVec.xor_zero]

/-- A division step, without its case for a zero leading coefficient: the scaled generator is then zero. -/
theorem divStep_cons (gen : List Byte) (y : Byte) (d : List Byte) :
    divStep gen (y :: d) = xorInto (gen.tail.map (gfMul y)) d := by
  rw [divStep]
  split
  · next hy =>
    rw [hy, xorInto_map_zero]
    rfl
  · cases gen <;> rfl

theorem xorInto_xor (g : List Byte) (y z : Byte) (c d : List Byte) :
    xorInto (g.map (gfMul (y ^^^ z))) (List.zipWith (· ^^^ ·) c d) =
      List.zipWith (· ^^^ ·) (xorInto (g.map (gfMul y)) c) (xorInto (g.map (gfMul z)) d) := by
  induction g generalizing c d with
  | nil => rfl
  | cons k g ih =>
    cases c with
    | nil => rfl
    | cons a c =>
      cases d with
      | nil => rfl
      | cons b d =>
        simp only [List.map_cons, List.zipWith_cons_cons, xorInto, ih, xor_gfMul]
        congr 1
        ac_rfl

theorem divStep_xor (gen c d : List Byte) :
    divStep gen (List.zipWith (· ^^^ ·) c d) = List.zipWith (· ^^^ ·) (divStep gen c) (divStep gen d) := by
  cases c with
  | nil => rfl
  | cons y c =>
    cases d with
    | nil => rw [List.zipWith_nil_right, divStep, List.zipWith_nil_right]
    | cons z d => rw [List.zipWith_cons_cons, divStep_cons, divStep_cons, divStep_cons, xorInto_xor]

theorem divLoop_xor (gen : List Byte) (k : Nat) (c d : List Byte) :
    divLoop gen k (List.zipWith (· ^^^ ·) c d) = List.zipWith (· ^^^ ·) (divLoop gen k c) (divLoop gen k d) := by
  induction k generalizing c d with
  | zero => rfl
  | succ k ih =>
    rw [divLoop, divStep_xor, ih]
    rfl

/-- Leading zeros are passed over. -/
theorem divLoop_add_replicate (gen : List Byte) (k l : Nat) (d : List Byte) :
    divLoop gen (k + l) (List.replicate k 0#8 ++ d) = divLoop gen l d := by
  induction k with
  | zero =>
    rw [Nat.zero_add]
    rfl
  | succ k ih =>
    rw [Nat.succ_add, divLoop, List.replicate_succ, List.cons_append, divStep_cons, xorInto_map_zero, ih]

/-! ### The remainder (R257) -/

theorem rsRem_replicate_append (k : Nat) (m : List Byte) (n : Nat) :
    rsRem (List.replicate k 0#8 ++ m) n = rsRem m n := by
  rw [rsRem, List.length_append, List.length_replicate, List.append_assoc, divLoop_add_replicate, rsRem]

theorem rsRem_replicate (k n : Nat) : rsRem (List.replicate k 0#8) n = List.replicate n 0#8 := by
  have h := rsRem_replicate_append k [] n
  rwa [List.append_nil] at h

theorem rsRem_xor {m m' : List Byte} (h : m.length = m'.length) (n : Nat) :
    rsRem (List.zipWith (· ^^^ ·) m m') n = List.zipWith (· ^^^ ·) (rsRem m n) (rsRem m' n) := by
  have hpad : List.zipWith (· ^^^ ·) m m' ++ List.replicate n 0#8 =
      List.zipWith (· ^^^ ·) (m ++ List.replicate n 0#8) (m' ++ List.replicate n 0#8) := by
    rw [List.zipWith_append h, List.zipWith_replicate', BitVec.xor_zero]
  rw [rsRem, hpad, divLoop_xor, List.length_zipWith, ← h, Nat.min_self, rsRem, rsRem, ← h]

/-- Settles O50: the division passes over zeros and is linear in the dividend. -/
theorem remainderLaws : Obligations.RemainderLaws :=
  fun n _ _ => ⟨fun k => rsRem_replicate k n, fun m => length_rsRem m n, fun _ _ h => rsRem_xor h n,
    fun k m => rsRem_replicate_append k m n⟩

/-! ### Division at a root of the generator -/

/-- A polynomial whose value is 0 at `x`, added to the leading coefficients, keeps the value at `x`. -/
theorem hornerFrom_xorInto {x : Byte} {g d : List Byte} (hlen : g.length ≤ d.length) {b : Byte}
    (hroot : hornerFrom x b g = 0#8) (a : Byte) : hornerFrom x (a ^^^ b) (xorInto g d) = hornerFrom x a d := by
  induction g generalizing d a b with
  | nil =>
    obtain rfl : b = 0#8 := hroot
    rw [BitVec.xor_zero]
    rfl
  | cons k g ih =>
    cases d with
    | nil => simp at hlen
    | cons y d =>
      rw [xorInto, hornerFrom_cons, horner_xor, ih (Nat.le_of_succ_le_succ hlen) hroot]
      rfl

/-- One division step keeps the value of the dividend at a root of a monic generator. -/
theorem evalPoly_divStep {x : Byte} {gs d : List Byte} (hroot : evalPoly (1#8 :: gs) x = 0#8)
    (hlen : gs.length < d.length) : evalPoly (divStep (1#8 :: gs) d) x = evalPoly d x := by
  cases d with
  | nil => simp at hlen
  | cons y d =>
    have hscaled : hornerFrom x y (gs.map (gfMul y)) = 0#8 := by
      have h := hornerFrom_map_gfMul x y 1#8 gs
      rwa [gfMul_one_right, ← evalPoly_cons 1#8, hroot, gfMul_zero_right] at h
    have hlen' : (gs.map (gfMul y)).length ≤ d.length := by simpa using Nat.le_of_lt_succ hlen
    rw [divStep_cons, List.tail_cons, evalPoly_cons, evalPoly_eq_hornerFrom, ← hornerFrom_xorInto hlen' hscaled y,
      BitVec.xor_self]

theorem evalPoly_divLoop {x : Byte} {gs : List Byte} (hroot : evalPoly (1#8 :: gs) x = 0#8) {k : Nat} {d : List Byte}
    (hlen : k + gs.length ≤ d.length) : evalPoly (divLoop (1#8 :: gs) k d) x = evalPoly d x := by
  induction k generalizing d with
  | zero => rfl
  | succ k ih => rw [divLoop, ih (by rw [length_divStep]; omega), evalPoly_divStep hroot (by omega)]

/-- At a root of the generator the remainder has the value of the message, moved up by the degree. -/
theorem evalPoly_rsRem {n i : Nat} (h1 : 1 ≤ n) (h30 : n ≤ 30) (hi : i < n) (m : List Byte) :
    evalPoly (rsRem m n) (gfExp i) = evalPoly (m ++ List.replicate n 0#8) (gfExp i) := by
  obtain ⟨gs, hgen, hlen⟩ := genPoly_eq_cons h1 h30
  have hroot := evalPoly_genPoly h1 h30 hi
  rw [hgen] at hroot
  rw [rsRem, hgen, evalPoly_divLoop hroot (by simp [hlen])]

/-- Settles O51: the message moved up by the degree has the remainder's value at each root, and their sum is 0. -/
theorem codewordsHaveTheGeneratorsRoots : Obligations.CodewordsHaveTheGeneratorsRoots := by
  intro n h1 h30 m i hi
  rw [evalPoly_append, length_rsRem, evalPoly_rsRem h1 h30 hi, BitVec.xor_self]

end Sys2Proof.Machine
end

section
/-! SUPPORT. The GF(256) and Reed-Solomon commands: completions with results, blocks by address, and what the commands
store (spec/41_reed_solomon.md R258 to R266). -/

namespace Sys2Proof.Machine

/-! ### Operand fields (R160) -/

theorem Pend.toNat_arg0Lo (p : Pend) : p.arg0Lo.toNat = p.arg0.toNat % 256 := by
  rw [Pend.arg0Lo, BitVec.extractLsb'_toNat, Nat.shiftRight_zero]

theorem Pend.src_eq (p : Pend) : p.src = p.arg0.toNat % 4096 := by
  rw [Pend.src, BitVec.extractLsb'_toNat, Nat.shiftRight_zero]

theorem Pend.len_eq (p : Pend) : p.len = p.arg1.toNat % 256 := by
  rw [Pend.len, BitVec.extractLsb'_toNat, Nat.shiftRight_zero]

theorem Pend.degree_eq (p : Pend) : p.degree = p.arg1.toNat / 256 % 256 := by
  rw [Pend.degree, BitVec.extractLsb'_toNat, Nat.shiftRight_eq_div_pow]

theorem Pend.dst_eq (p : Pend) : p.dst = p.arg2.toNat % 4096 := by
  rw [Pend.dst, BitVec.extractLsb'_toNat, Nat.shiftRight_zero]

theorem genArgsOk_iff {n j : Nat} : genArgsOk n j = true ↔ 1 ≤ n ∧ n ≤ 30 ∧ j ≤ n := by
  simp [genArgsOk, degreeOk_iff, and_assoc]

theorem blockArgsOk_iff {src len n dst : Nat} :
    blockArgsOk src len n dst = true ↔ 1 ≤ n ∧ n ≤ 30 ∧ src + len ≤ 4096 ∧ dst + n ≤ 4096 := by
  simp [blockArgsOk, degreeOk_iff, and_assoc, Config.bufBytes]

/-! ### The field commands -/

/-- A pending command completes with what its rule answers. -/
theorem exec_of_body {i : Instr} {s : State} {p : Pend} {k : CmdResult} (hp : s.pend = some p)
    (hbody : bodyOf i p s = k) : exec i s = .next k.complete := by
  rw [exec_pending hp, hbody]

/-- Settles O26: RES0 is the product by logarithms, which is the product of polynomials. -/
theorem gfMulResult : Obligations.GfMulResult := by
  intro s p hp
  rw [← toNat_gfMul, BitVec.ofNat_toNat]
  exact exec_results hp rfl

/-- Settles O27: a non-zero operand is the power of its logarithm. -/
theorem gfLogResult : Obligations.GfLogResult := by
  intro s p hp
  refine ⟨fun hne => ?nonzero, fun hzero => ?zero⟩
  case nonzero =>
    obtain ⟨hlt, hpow⟩ := gfExp_gfLog p.arg0Lo hne
    exact ⟨gfLog p.arg0Lo, hlt, hpow, exec_results hp (if_neg hne)⟩
  case zero =>
    exact exec_of_body (i := .gfLog) hp (if_pos hzero)

/-- Settles O28: RES0 is the ROM's entry, and the ROM's entries are the powers of α with LOG as their inverse. -/
theorem gfExpResult : Obligations.GfExpResult := by
  refine ⟨fun s p hp => ?result, gfExp_zero, toNat_gfExp_succ, fun i hi => gfLog_gfExp hi⟩
  rw [← Pend.toNat_arg0Lo, BitVec.ofNat_toNat]
  exact exec_results hp rfl

/-- GF_GEN's word for a non-zero coefficient: its logarithm above it (R263). -/
theorem toNat_genResult {x : Byte} (hx : x ≠ 0#8) : (genResult x).toNat = gfLog x * 256 + x.toNat := by
  obtain ⟨hlog, _⟩ := gfExp_gfLog x hx
  rw [genResult, toNat_pack8 (by decide) (by decide) (by omega) x.isLt]
  omega

/-- Settles O29: within its degree a generator has a coefficient, and it is not 0. -/
theorem gfGenResult : Obligations.GfGenResult := by
  intro s p hp n j
  refine ⟨fun hargs => ?coefficient, fun hargs => ?badArg⟩
  case coefficient =>
    obtain ⟨h1, h30, hj⟩ := hargs
    obtain ⟨hlength, _, hzero⟩ := genPoly_coefficients h1 h30
    have hlt : j < (genPoly n).length := by omega
    have hx : (genPoly n)[j] ≠ 0#8 := fun h => hzero (h ▸ List.getElem_mem hlt)
    have hbody : bodyOf .gfGen p s = .done (s.setResults (genResult (genPoly n)[j]) 0#32 0#32 0#32) := by
      rw [← List.getD_eq_getElem _ 0#8 hlt]
      exact if_pos (genArgsOk_iff.2 ⟨h1, h30, hj⟩)
    exact ⟨_, (genPoly n)[j], List.getElem?_eq_getElem hlt, exec_results hp hbody, toNat_genResult hx, rfl, rfl, rfl⟩
  case badArg =>
    exact exec_of_body (i := .gfGen) hp (if_neg fun h => hargs (genArgsOk_iff.1 h))

/-! ### MSG by address and the blocks (R258) -/

/-- A capacity row adds up: blocks, data codewords, all codewords; and its remainder bits fit one byte (R210, R266). -/
structure CapEntry.AddsUp (e : CapEntry) : Prop where
  blocks : e.blocks = e.g1Blocks + e.g2Blocks
  dataCW : e.dataCW = e.g1Blocks * e.g1Data + e.g2Blocks * e.g2Data
  totalCW : e.totalCW = e.dataCW + e.ec * e.blocks
  rem : e.rem ≤ 8

theorem Pend.cap_addsUp {p : Pend} (hv : p.VersionInRange) : (cap p.level.toNat p.version.toNat).AddsUp :=
  let ⟨hblocks, hdata, htotal, hrem⟩ := cap_adds_up p.lv_lt (Pend.versionOk_iff_inRange.2 hv)
  ⟨hblocks, hdata, htotal, hrem⟩

theorem State.readBuf_msg (s : State) (k n : Nat) : s.readBuf .msg k n = s.msgBytes k n :=
  Memory.readRange_eq _ _ _

@[simp] theorem State.length_msgBytes (s : State) (k n : Nat) : (s.msgBytes k n).length = n := by
  simp [State.msgBytes]

theorem State.getElem?_msgBytes (s : State) (k n i : Nat) :
    (s.msgBytes k n)[i]? = if i < n then some (s.mem.read (0x01000 + k + i)) else none := by
  split
  · next h => simp [State.msgBytes, h]
  · next h => simp [State.msgBytes, h]

/-- A piece of a run of MSG is a run of MSG. -/
theorem State.take_drop_msgBytes (s : State) {k n d : Nat} (h : k + n ≤ d) :
    ((s.msgBytes 0 d).drop k).take n = s.msgBytes k n := by
  refine List.ext_getElem? fun i => ?_
  rw [List.getElem?_take, List.getElem?_drop, State.getElem?_msgBytes, State.getElem?_msgBytes]
  by_cases hi : i < n
  · rw [if_pos hi, if_pos (by omega), if_pos hi, Nat.add_zero, Nat.add_assoc]
  · rw [if_neg hi, if_neg hi]

theorem chunk_eq_map {α : Type} (w n : Nat) (l : List α) :
    chunk w n l = (List.range n).map fun b => (l.drop (b * w)).take w := by
  induction n generalizing l with
  | zero => rfl
  | succ n ih =>
    rw [chunk, ih, List.range_succ_eq_map, List.map_cons, List.map_map, Nat.zero_mul, List.drop_zero]
    congr 1
    refine List.map_congr_left fun b _ => ?_
    rw [List.drop_drop, Function.comp, Nat.succ_mul, Nat.add_comm]

/-- Each of `n` pieces of width `w` ends no later than all of them. -/
theorem piece_end_le {w n b : Nat} (hb : b < n) : b * w + w ≤ n * w :=
  (Nat.succ_mul b w).symm.trans_le (Nat.mul_le_mul_right w hb)

theorem piece_index_lt {w n b i : Nat} (hb : b < n) (hi : i < w) : b * w + i < n * w :=
  (Nat.add_lt_add_left hi _).trans_le (piece_end_le hb)

/-- The blocks of MSG stand one after the other, group 1 first. -/
theorem splitBlocks_msgBytes (s : State) {e : CapEntry} (he : e.AddsUp) :
    splitBlocks e (s.msgBytes 0 e.dataCW) =
      (List.range e.blocks).map fun b => s.msgBytes (blockStart e b) (blockLen e b) := by
  have hdata := he.dataCW
  rw [splitBlocks, chunk_eq_map, chunk_eq_map, he.blocks, List.range_add, List.map_append, List.map_map]
  congr 1
  · refine List.map_congr_left fun b hb => ?_
    have hfirst := List.mem_range.1 hb
    have hend := piece_end_le (w := e.g1Data) hfirst
    rw [blockStart, blockLen, if_pos hfirst, if_pos hfirst, State.take_drop_msgBytes _ (by omega)]
  · refine List.map_congr_left fun b hb => ?_
    have hend := piece_end_le (w := e.g2Data) (List.mem_range.1 hb)
    have hsecond : ¬e.g1Blocks + b < e.g1Blocks := by omega
    rw [Function.comp, blockStart, blockLen, if_neg hsecond, if_neg hsecond, Nat.add_sub_cancel_left, List.drop_drop,
      State.take_drop_msgBytes _ (by omega)]

/-! ### RS_BLOCK and RS_ENCODE: remainders in ECC -/

/-- Bytes stored in a buffer are read at their addresses. -/
theorem State.getElem?_eq_read_writeBuf (s : State) (b : Buf) (off : Nat) {bs : List Byte} {i : Nat}
    (hi : i < bs.length) : bs[i]? = some ((s.writeBuf b off bs).mem.read (b.base + off + i)) := by
  have hread : (s.writeBuf b off bs).mem.read (b.base + off + i) = bs.getD i 0#8 := Memory.read_writeRange_inside hi
  rw [hread, List.getD_eq_getElem _ _ hi, List.getElem?_eq_getElem hi]

/-- Settles O30: the checks, then the store of the remainder. -/
theorem rsBlockResult : Obligations.RsBlockResult := by
  intro s p hp src len n dst legal
  have hlegal : blockArgsOk p.src p.len p.degree p.dst = true ↔ legal := by
    rw [blockArgsOk_iff, p.src_eq, p.len_eq, p.degree_eq, p.dst_eq]
  refine ⟨fun h => ?stores, fun h => ?badArg⟩
  case stores =>
    have hbody : bodyOf .rsBlock p s = .done (s.writeBuf .ecc dst (rsRem (s.msgBytes src len) n)) := by
      rw [bodyOf, bodyRsBlock, if_pos (hlegal.2 h), State.readBuf_msg, p.src_eq, p.len_eq, p.degree_eq, p.dst_eq]
    have hlength := length_rsRem (s.msgBytes src len) n
    exact ⟨_, exec_of_body hp hbody, rfl, fun i hi => s.getElem?_eq_read_writeBuf .ecc dst (hlength.symm ▸ hi),
      fun a ha => Memory.read_writeRange_outside (hlength.symm ▸ ha)⟩
  case badArg =>
    exact exec_of_body (i := .rsBlock) hp (if_neg fun hok => h (hlegal.1 hok))

/-- Byte `i` of block `b`'s remainder is byte b×ec + i of what RS_ENCODE stores. -/
theorem encodeBlocks_getElem? (s : State) {e : CapEntry} (he : e.AddsUp) {b i : Nat} (hb : b < e.blocks)
    (hi : i < e.ec) : (encodeBlocks e (s.msgBytes 0 e.dataCW))[b * e.ec + i]? =
      (rsRem (s.msgBytes (blockStart e b) (blockLen e b)) e.ec)[i]? := by
  have hsplit := splitBlocks_msgBytes s he
  have hpieces := chunk_flatten e.ec ((splitBlocks e (s.msgBytes 0 e.dataCW)).map fun m => rsRem m e.ec) (by simp)
  have hbyte := chunk_getElem? e.ec e.blocks (encodeBlocks e (s.msgBytes 0 e.dataCW)) hb hi
  rw [List.length_map, length_splitBlocks, ← he.blocks, ← List.flatMap_def, ← encodeBlocks] at hpieces
  rw [← hbyte, hpieces, hsplit, List.map_map, List.getElem?_map, List.getElem?_range hb]
  rfl

/-- Settles O31: the bytes stored are the blocks' remainders in a row, the blocks stand in MSG one after the other. -/
theorem rsEncodeResult : Obligations.RsEncodeResult := by
  intro s p hp e
  refine ⟨fun hv => ?stores, exec_outOfRange hp rfl⟩
  have he : e.AddsUp := Pend.cap_addsUp hv
  have hbody : bodyOf .rsEncode p s = checkVersion p s
      (.done (s.writeBuf .ecc 0 (encodeBlocks e (s.msgBytes 0 e.dataCW)))) := by
    rw [← State.readBuf_msg]
    rfl
  have hlength : (encodeBlocks e (s.msgBytes 0 e.dataCW)).length = e.blocks * e.ec := by
    rw [length_encodeBlocks, ← he.blocks]
  refine ⟨_, exec_inRange hp hbody hv, rfl, fun b i hb hi => ?remainders, fun a ha => ?frame⟩
  case remainders =>
    rw [← encodeBlocks_getElem? s he hb hi, Nat.add_assoc]
    exact s.getElem?_eq_read_writeBuf .ecc 0 (hlength.symm ▸ piece_index_lt hb hi)
  case frame =>
    exact Memory.read_writeRange_outside (hlength.symm ▸ ha)

/-! ### INTERLEAVE: the composed stream -/

theorem interleaveData_msgBytes (s : State) {e : CapEntry} (he : e.AddsUp) :
    interleaveData e (splitBlocks e (s.msgBytes 0 e.dataCW)) =
      (List.range (max e.g1Data e.g2Data)).flatMap fun i => (List.range e.blocks).filterMap fun b =>
        if i < blockLen e b then some (s.mem.read (0x01000 + blockStart e b + i)) else none := by
  rw [interleaveData, splitBlocks_msgBytes s he]
  simp only [List.filterMap_map, Function.comp_def, State.getElem?_msgBytes]

theorem interleaveEcc_readBuf (s : State) (e : CapEntry) :
    interleaveEcc e (s.readBuf .ecc 0 (e.blocks * e.ec)) =
      (List.range e.ec).flatMap fun i => (List.range e.blocks).map fun b => s.mem.read (0x02000 + b * e.ec + i) := by
  rw [interleaveEcc, List.flatMap_def, List.flatMap_def]
  congr 1
  refine List.map_congr_left fun i hi => List.map_congr_left fun b hb => ?_
  have hlt := piece_index_lt (List.mem_range.1 hb) (List.mem_range.1 hi)
  rw [State.readBuf, Nat.add_zero, Memory.readRange_eq, List.getD_eq_getElem _ _ (by simpa using hlt), List.getElem_map,
    List.getElem_range, ← Nat.add_assoc]
  rfl

theorem interleave_eq_composedOut (s : State) {e : CapEntry} (he : e.AddsUp) :
    interleaveData e (splitBlocks e (s.msgBytes 0 e.dataCW)) ++ interleaveEcc e (s.readBuf .ecc 0 (e.blocks * e.ec)) =
      s.composedOut e := by
  rw [interleaveData_msgBytes s he, interleaveEcc_readBuf, State.composedOut]

theorem State.length_composedOut (s : State) {e : CapEntry} (he : e.AddsUp) : (s.composedOut e).length = e.totalCW := by
  rw [← interleave_eq_composedOut s he, List.length_append,
    length_interleaveData ((s.length_msgBytes _ _).trans he.dataCW), length_interleaveEcc, ← he.dataCW, ← he.totalCW]

/-- What INTERLEAVE stores: the list out of R266, then the remainder byte where there are remainder bits. -/
def State.composedBytes (s : State) (e : CapEntry) : List Byte := s.composedOut e ++ if e.rem = 0 then [] else [0#8]

theorem composeStream_eq (s : State) {e : CapEntry} (he : e.AddsUp) :
    composeStream e (s.readBuf .msg 0 e.dataCW) (s.readBuf .ecc 0 (e.blocks * e.ec)) = s.composedBytes e := by
  rw [composeStream, State.readBuf_msg, interleave_eq_composedOut s he,
    List.take_of_length_le (s.length_composedOut he).le, State.composedBytes]

theorem State.length_composedBytes (s : State) {e : CapEntry} (he : e.AddsUp) :
    (s.composedBytes e).length = (8 * e.totalCW + e.rem + 7) / 8 := by
  have hrem := he.rem
  rw [State.composedBytes, List.length_append, s.length_composedOut he]
  split
  · rw [List.length_nil]
    omega
  · rw [List.length_singleton]
    omega

theorem State.getElem?_composedBytes (s : State) {e : CapEntry} (he : e.AddsUp) {k : Nat} (hk : k < e.totalCW) :
    (s.composedBytes e)[k]? = (s.composedOut e)[k]? :=
  List.getElem?_append_left ((s.length_composedOut he).symm ▸ hk)

theorem State.getElem?_composedBytes_totalCW (s : State) {e : CapEntry} (he : e.AddsUp) (hrem : 0 < e.rem) :
    (s.composedBytes e)[e.totalCW]? = some 0#8 := by
  have hout := s.length_composedOut he
  rw [State.composedBytes, List.getElem?_append_right hout.le, hout, Nat.sub_self, if_neg hrem.ne']
  rfl

/-- Settles O32: the bytes stored are the list out of R266 and the remainder byte. -/
theorem interleaveResult : Obligations.InterleaveResult := by
  intro s p hp e
  refine ⟨fun hv => ?stores, exec_outOfRange hp rfl⟩
  have he : e.AddsUp := Pend.cap_addsUp hv
  have hbody : bodyOf .interleave p s = checkVersion p s
      (.done ((s.writeBuf .cw 0 (s.composedBytes e)).setCwBits (8 * e.totalCW + e.rem))) := by
    rw [← composeStream_eq s he]
    rfl
  have hcw : (BitVec.ofNat 16 (8 * e.totalCW + e.rem)).toNat = 8 * e.totalCW + e.rem :=
    Pend.toNat_onStream_cwBits (Pend.versionOk_iff_inRange.2 hv)
  have hlength := s.length_composedBytes he
  have hread {k : Nat} (hk : k < (s.composedBytes e).length) := s.getElem?_eq_read_writeBuf .cw 0 hk
  refine ⟨_, exec_inRange hp hbody hv, rfl, hcw, s.length_composedOut he, fun k hk => ?codewords,
    fun hrem => ?remainder, fun a ha => ?frame⟩
  case codewords =>
    rw [← s.getElem?_composedBytes he hk]
    exact hread (by omega)
  case remainder =>
    exact Option.some.inj ((hread (by omega)).symm.trans (s.getElem?_composedBytes_totalCW he hrem))
  case frame =>
    exact Memory.read_writeRange_outside (hlength.symm ▸ hcw ▸ ha)

end Sys2Proof.Machine
end

section
/-! SUPPORT. The zigzag scan: its column pairs, its positions and its cells (spec/42_placement.md R340). -/

namespace Sys2Proof.Machine

/-- Position q×w + j of pieces of equal width w in a row is position j of piece q. -/
theorem getElem?_flatMap_of_length {α β : Type} {f : α → List β} {w : Nat} {l : List α}
    (hf : ∀ x ∈ l, (f x).length = w) (q : Nat) {j : Nat} (hj : j < w) :
    (l.flatMap f)[q * w + j]? = l[q]?.bind fun x => (f x)[j]? := by
  induction l generalizing q with
  | nil => rfl
  | cons x l ih =>
    have hx : (f x).length = w := hf x List.mem_cons_self
    rw [List.flatMap_cons]
    cases q with
    | zero => rw [Nat.zero_mul, Nat.zero_add, List.getElem?_append_left (hx.symm ▸ hj), List.getElem?_cons_zero, Option.bind_some]
    | succ q =>
      rw [Nat.succ_mul, List.getElem?_append_right (by omega), List.getElem?_cons_succ,
        ← ih (fun y hy => hf y (List.mem_cons_of_mem x hy)) q, hx]
      congr 1
      omega

/-- Pieces of equal width w in a row. -/
theorem length_flatMap_of_length {α β : Type} {f : α → List β} {w : Nat} {l : List α}
    (hf : ∀ x ∈ l, (f x).length = w) : (l.flatMap f).length = l.length * w := by
  rw [List.length_flatMap, List.map_congr_left hf, List.map_const', List.sum_replicate_nat]

/-! ### Column pairs -/

/-- The right column of pair `q`: pairs from column n−1 down, column 6 left out. -/
def pairRight (n q : Nat) : Nat := if 6 < n - 1 - 2 * q then n - 1 - 2 * q else n - 2 - 2 * q

/-- The two cells of a row in pair `q`, the right one first. -/
def pairCells (n q r : Nat) : List (Nat × Nat) := [(r, pairRight n q), (r, pairRight n q - 1)]

/-- The cells of pair `q` in scan order: even pairs upward, odd ones downward. -/
def scanPair (n q : Nat) : List (Nat × Nat) := (scanRows n (q % 2 == 0)).flatMap (pairCells n q)

theorem scanFrom_eq_pairs {n : Nat} (hodd : n % 2 = 1) : ∀ {m fuel q right : Nat}, 2 * (q + m) = n - 1 → m ≤ fuel →
    right = (if 6 ≤ n - 1 - 2 * q then n - 1 - 2 * q else n - 2 - 2 * q) →
    scanFrom n fuel right (q % 2 == 0) = (List.range' q m).flatMap (scanPair n) := by
  intro m
  induction m with
  | zero =>
    intro fuel q right hq _ hright
    have hend : right = 0 := by split at hright <;> omega
    cases fuel with
    | zero => rfl
    | succ fuel => rw [scanFrom, if_pos hend, List.range'_zero, List.flatMap_nil]
  | succ m ih =>
    intro fuel q right hq hfuel hright
    obtain ⟨fuel, rfl⟩ : ∃ f, fuel = f + 1 := ⟨fuel - 1, by omega⟩
    have hcol : (if right = 6 then 5 else right) = pairRight n q := by
      unfold pairRight
      split_ifs at hright ⊢ <;> omega
    have hnext : pairRight n q - 2 =
        if 6 ≤ n - 1 - 2 * (q + 1) then n - 1 - 2 * (q + 1) else n - 2 - 2 * (q + 1) := by
      unfold pairRight
      split_ifs <;> omega
    have hparity : (!(q % 2 == 0)) = ((q + 1) % 2 == 0) := by
      rcases Nat.mod_two_eq_zero_or_one q with h | h <;> simp [Nat.add_mod, h]
    have hmore : right ≠ 0 := by split at hright <;> omega
    rw [scanFrom, if_neg hmore, List.range'_succ, List.flatMap_cons]
    simp only [hcol]
    rw [hparity, ih (by omega) (by omega) hnext]
    rfl

theorem scan_eq_pairs {n : Nat} (hodd : n % 2 = 1) (hn : 7 ≤ n) :
    scan n = (List.range ((n - 1) / 2)).flatMap (scanPair n) := by
  rw [List.range_eq_range']
  exact scanFrom_eq_pairs (q := 0) hodd (by omega) (by omega) (by rw [if_pos (by omega)]; rfl)

/-! ### Positions -/

@[simp] theorem length_scanRows (n : Nat) (up : Bool) : (scanRows n up).length = n := by
  cases up <;> simp [scanRows]

@[simp] theorem mem_scanRows {n r : Nat} {up : Bool} : r ∈ scanRows n up ↔ r < n := by
  cases up <;> simp [scanRows]

theorem scanRows_getElem? {n i : Nat} (hi : i < n) (up : Bool) :
    (scanRows n up)[i]? = some (if up then n - 1 - i else i) := by
  cases up <;> simp [scanRows, hi]

theorem length_pairCells (n q r : Nat) : (pairCells n q r).length = 2 := rfl

theorem pairCells_getElem? (n q r : Nat) {j : Nat} (hj : j < 2) : (pairCells n q r)[j]? = some (r, pairRight n q - j) := by
  interval_cases j <;> rfl

@[simp] theorem length_scanPair (n q : Nat) : (scanPair n q).length = 2 * n := by
  rw [scanPair, length_flatMap_of_length fun r _ => length_pairCells n q r, length_scanRows, Nat.mul_comm]

theorem scanPair_getElem? {n j : Nat} (hj : j < 2 * n) (q : Nat) :
    (scanPair n q)[j]? = some (if q % 2 = 0 then n - 1 - j / 2 else j / 2, pairRight n q - j % 2) := by
  have hoffset : j % 2 < 2 := Nat.mod_lt j (by decide)
  have hpos := getElem?_flatMap_of_length (l := scanRows n (q % 2 == 0)) (fun r _ => length_pairCells n q r) (j / 2) hoffset
  rw [Nat.div_add_mod', scanRows_getElem? (by omega), Option.bind_some, pairCells_getElem? _ _ _ hoffset] at hpos
  simpa only [scanPair, beq_iff_eq] using hpos

theorem length_scan {n : Nat} (hodd : n % 2 = 1) (hn : 7 ≤ n) : (scan n).length = n * (n - 1) := by
  rw [scan_eq_pairs hodd hn, length_flatMap_of_length (fun q _ => length_scanPair n q), List.length_range,
    ← Nat.mul_assoc, Nat.div_mul_cancel (by omega), Nat.mul_comm]

/-- A position of the scan lies in one of its pairs. -/
theorem scan_pair_lt {n k : Nat} (hodd : n % 2 = 1) (hk : k < n * (n - 1)) : k / (2 * n) < (n - 1) / 2 := by
  have hcells : (n - 1) / 2 * (2 * n) = n * (n - 1) := by
    rw [← Nat.mul_assoc, Nat.div_mul_cancel (by omega), Nat.mul_comm]
  exact Nat.div_lt_of_lt_mul (by rwa [Nat.mul_comm, hcells])

theorem scan_getElem? {n : Nat} (hodd : n % 2 = 1) (hn : 7 ≤ n) {q j : Nat} (hq : q < (n - 1) / 2) (hj : j < 2 * n) :
    (scan n)[q * (2 * n) + j]? =
      some (if q % 2 = 0 then n - 1 - j / 2 else j / 2, pairRight n q - j % 2) := by
  rw [scan_eq_pairs hodd hn, getElem?_flatMap_of_length (fun q _ => length_scanPair n q) q hj, List.getElem?_range hq,
    Option.bind_some, scanPair_getElem? hj]

/-! ### Cells -/

theorem mem_scanPair {n q r c : Nat} :
    (r, c) ∈ scanPair n q ↔ r < n ∧ (c = pairRight n q ∨ c = pairRight n q - 1) := by
  simp only [scanPair, pairCells, List.mem_flatMap, mem_scanRows, List.mem_cons, Prod.mk.injEq, List.not_mem_nil, or_false]
  constructor
  · rintro ⟨row, hrow, ⟨rfl, rfl⟩ | ⟨rfl, rfl⟩⟩
    · exact ⟨hrow, .inl rfl⟩
    · exact ⟨hrow, .inr rfl⟩
  · rintro ⟨hr, hc⟩
    exact ⟨r, hr, hc.imp (⟨rfl, ·⟩) (⟨rfl, ·⟩)⟩

theorem mem_scan {n : Nat} (hodd : n % 2 = 1) (hn : 7 ≤ n) {r c : Nat} : (r, c) ∈ scan n ↔ r < n ∧ c < n ∧ c ≠ 6 := by
  simp only [scan_eq_pairs hodd hn, List.mem_flatMap, List.mem_range, mem_scanPair]
  constructor
  · rintro ⟨q, hq, hr, hc⟩
    unfold pairRight at hc
    split at hc <;> omega
  · rintro ⟨hr, hc, h6⟩
    refine ⟨if 6 < c then (n - 1 - c) / 2 else (n - 2 - c) / 2, ?_, hr, ?_⟩
    · split <;> omega
    · unfold pairRight
      split_ifs <;> omega

theorem scanPair_nodup (n q : Nat) (hright : 0 < pairRight n q) : (scanPair n q).Nodup := by
  refine List.nodup_flatMap.2 ⟨fun r _ => ?cells, ?rows⟩
  case cells =>
    have : pairRight n q ≠ pairRight n q - 1 := by omega
    simpa [pairCells] using this
  case rows =>
    have hrows : (scanRows n (q % 2 == 0)).Nodup := by
      unfold scanRows
      split
      · exact List.nodup_reverse.2 List.nodup_range
      · exact List.nodup_range
    refine hrows.imp fun {r r'} hne => ?_
    simp [Function.onFun, List.disjoint_left, pairCells, hne]

theorem scan_nodup {n : Nat} (hodd : n % 2 = 1) (hn : 7 ≤ n) : (scan n).Nodup := by
  rw [scan_eq_pairs hodd hn]
  refine List.nodup_flatMap.2 ⟨fun q hq => scanPair_nodup n q ?right, List.nodup_range.imp_of_mem ?disjoint⟩
  case right =>
    have := List.mem_range.1 hq
    unfold pairRight
    split <;> omega
  case disjoint =>
    rintro q q' hq hq' hne ⟨r, c⟩ hmem hmem'
    have hlt := List.mem_range.1 hq
    have hlt' := List.mem_range.1 hq'
    obtain ⟨_, hc⟩ := mem_scanPair.1 hmem
    obtain ⟨_, hc'⟩ := mem_scanPair.1 hmem'
    unfold pairRight at hc hc'
    split_ifs at hc hc' <;> omega

theorem size_odd (v : Nat) : size v % 2 = 1 := by
  unfold size
  omega

theorem size_ge (v : Nat) : 21 ≤ size v := Nat.le_add_left _ _

theorem seven_le_size (v : Nat) : 7 ≤ size v := (size_ge v).trans' (by decide)

/-- Settles O52: the scan is its column pairs in a row, each of 2N cells. -/
theorem scanOrder : Obligations.ScanOrder := by
  intro v _ _ n
  have hodd := size_odd v
  have hn : 7 ≤ n := seven_le_size v
  refine ⟨length_scan hodd hn, scan_nodup hodd hn, fun r c => mem_scan hodd hn, fun k hk => ?_⟩
  have hpos := scan_getElem? hodd hn (scan_pair_lt hodd hk) (Nat.mod_lt k (by omega : 0 < 2 * n))
  rwa [Nat.div_add_mod'] at hpos

end Sys2Proof.Machine
end

section
/-! SUPPORT. The placement commands: the region of GRID by coordinate, the placement loop and its stream bits
(spec/42_placement.md R332, R341, R342). -/

namespace Sys2Proof.Machine

/-! ### The region of GRID by coordinate -/

theorem State.read_gridAddr_writeGrid {g : Grid} {v r c : Nat} (h : g.Square (size v)) (s : State) (hr : r < size v)
    (hc : c < size v) : (s.writeGrid .grid g).mem.read (gridAddr v r c) = (g.get r c).toByte := by
  rw [gridAddr, Nat.add_assoc]
  exact State.read_writeGrid h s .grid hr hc

theorem State.get_readGrid (s : State) {v r c : Nat} (hr : r < size v) (hc : c < size v) :
    (s.readGrid .grid v).get r c = s.gridCell v r c := by
  rw [State.readGrid_get s .grid v hr hc, State.gridCell, gridAddr, Nat.add_assoc]
  rfl

theorem State.anyCell_readGrid (s : State) (v : Nat) (q : Cell → Bool) :
    (s.readGrid .grid v).anyCell q = true ↔ ∃ r c, r < size v ∧ c < size v ∧ q (s.gridCell v r c) = true := by
  rw [Grid.anyCell_iff (s.readGrid_square .grid v)]
  refine exists₂_congr fun r c => and_congr_right fun hr => and_congr_right fun hc => ?_
  rw [s.get_readGrid hr hc]

theorem mem_coordinates {n r c : Nat} : (r, c) ∈ coordinates n ↔ r < n ∧ c < n := by
  simp [coordinates]

theorem coordinates_nodup (n : Nat) : (coordinates n).Nodup :=
  List.nodup_range.product List.nodup_range

theorem length_coordinates (n : Nat) : (coordinates n).length = n * n := by
  rw [coordinates, length_flatMap_of_length (w := n) (by simp), List.length_range]

theorem State.count_readGrid (s : State) (v : Nat) (q : Cell → Bool) :
    (s.readGrid .grid v).count q = s.countCells v q := by
  rw [Grid.count_eq (s.readGrid_square .grid v), State.countCells]
  refine List.countP_congr fun ⟨r, c⟩ hrc => ?_
  obtain ⟨hr, hc⟩ := mem_coordinates.1 hrc
  rw [s.get_readGrid hr hc]

theorem State.countCells_lt (s : State) {v : Nat} (hv : versionOk v = true) (q : Cell → Bool) :
    s.countCells v q < 2 ^ 32 :=
  calc s.countCells v q ≤ (coordinates (size v)).length := List.countP_le_length
    _ = size v * size v := length_coordinates _
    _ ≤ Config.gridCells := size_sq_le hv
    _ < 2 ^ 32 := by decide

/-! ### BUILD_FUNC and FREE_COUNT -/

/-- Settles O33: the region is written from the table of function cells, and reads back cell by cell. -/
theorem buildFuncResult : Obligations.BuildFuncResult := by
  intro s p hp v
  have hsquare := funcGrid_square v
  refine ⟨fun hv => ⟨_, exec_inRange (i := .buildFunc) hp rfl hv, rfl, fun r c hr hc => ?cells, fun a ha => ?frame⟩,
    exec_outOfRange hp rfl⟩
  case cells =>
    rw [← Grid.get_tabulate (funcCell v) hr hc]
    exact s.read_gridAddr_writeGrid hsquare hr hc
  case frame => exact s.read_writeGrid_outside hsquare .grid ha

/-- Settles O35: the searches and counts of the region are searches and counts over its coordinates. -/
theorem freeCountResult : Obligations.FreeCountResult := by
  intro s p hp v bad
  have hbad : (s.readGrid .grid v).anyCell Cell.isInvalid = true ↔ bad := s.anyCell_readGrid v _
  have hbody : bodyOf .freeCount p s = checkVersion p s (countOn (s.readGrid .grid v) s) := rfl
  refine ⟨exec_outOfRange hp hbody, fun hv hb => ?badCell, fun hv hb => ?counts⟩
  case badCell =>
    rw [countOn, if_pos (hbad.2 hb)] at hbody
    exact exec_inRange hp hbody hv
  case counts =>
    have hcount (q : Cell → Bool) : (BitVec.ofNat 32 ((s.readGrid .grid v).count q)).toNat = s.countCells v q := by
      rw [s.count_readGrid]
      exact toNat_ofNat_word (s.countCells_lt (Pend.versionOk_iff_inRange.2 hv) q)
    rw [countOn, if_neg (hbad.not.2 hb)] at hbody
    exact ⟨_, exec_results_inRange hp hbody hv, hcount _, hcount _, hcount _, rfl⟩

/-! ### The placement loop (R341) -/

/-- The cells of a list that are free in a region. -/
def Grid.freeIn (g : Grid) (l : List (Nat × Nat)) : List (Nat × Nat) := l.filter fun rc => (g.get rc.1 rc.2).isFree

theorem Grid.freeIn_cons_of_free {g : Grid} {r c : Nat} (h : (g.get r c).isFree = true) (l : List (Nat × Nat)) :
    g.freeIn ((r, c) :: l) = (r, c) :: g.freeIn l := List.filter_cons_of_pos h

theorem Grid.freeIn_cons_of_not_free {g : Grid} {r c : Nat} (h : ¬(g.get r c).isFree = true) (l : List (Nat × Nat)) :
    g.freeIn ((r, c) :: l) = g.freeIn l := List.filter_cons_of_neg h

/-- A free cell that takes a stream bit stays free, so that the free cells stay the same. -/
theorem Grid.freeIn_set_data {g : Grid} {n r c : Nat} (hg : g.Square n) (hr : r < n) (hc : c < n)
    (hfree : (g.get r c).isFree = true) (b : Bool) (l : List (Nat × Nat)) :
    (g.set r c (.data b)).freeIn l = g.freeIn l := by
  refine List.filter_congr fun rc _ => ?_
  rw [Grid.get_set hg hr hc]
  split
  · next h => rw [h.1, h.2, hfree]; rfl
  · rfl

theorem placeBits_cons_of_free {g : Grid} {r c : Nat} (h : (g.get r c).isFree = true) (l : List (Nat × Nat)) (b : Bool)
    (bits : List Bool) : placeBits ((r, c) :: l) (b :: bits) g = placeBits l bits (g.set r c (.data b)) := by
  rw [placeBits, if_pos h]

theorem placeBits_cons_of_not_free {g : Grid} {r c : Nat} (h : ¬(g.get r c).isFree = true) (l : List (Nat × Nat))
    (bits : List Bool) : placeBits ((r, c) :: l) bits g = placeBits l bits g := by
  rw [placeBits.eq_def]
  exact if_neg h

/-- The loop leaves every cell but the free ones on its way. -/
theorem placeBits_get_of_not_mem {n : Nat} {l : List (Nat × Nat)} (hl : ∀ r c, (r, c) ∈ l → r < n ∧ c < n) {g : Grid}
    (hg : g.Square n) (bits : List Bool) {r c : Nat} (hrc : (r, c) ∉ g.freeIn l) :
    (placeBits l bits g).get r c = g.get r c := by
  induction l generalizing g bits with
  | nil => rfl
  | cons x l ih =>
    obtain ⟨a, b⟩ := x
    have hrest : ∀ r c, (r, c) ∈ l → r < n ∧ c < n := fun r c h => hl r c (List.mem_cons_of_mem _ h)
    by_cases hfree : (g.get a b).isFree = true
    · obtain ⟨ha, hb⟩ := hl a b List.mem_cons_self
      rw [Grid.freeIn_cons_of_free hfree, List.mem_cons, Prod.mk.injEq, not_or] at hrc
      cases bits with
      | nil => simp only [placeBits, hfree, if_true]
      | cons bit bits =>
        rw [placeBits_cons_of_free hfree, ih hrest (Grid.set_square hg _ _ _) _ (by
          rw [Grid.freeIn_set_data hg ha hb hfree]
          exact hrc.2), Grid.get_set hg ha hb, if_neg hrc.1]
    · rw [Grid.freeIn_cons_of_not_free hfree] at hrc
      rw [placeBits_cons_of_not_free hfree, ih hrest hg _ hrc]

/-- The k-th free cell on the loop's way takes bit k. -/
theorem placeBits_get_of_free {n : Nat} {l : List (Nat × Nat)} (hl : ∀ r c, (r, c) ∈ l → r < n ∧ c < n) (hnodup : l.Nodup)
    {g : Grid} (hg : g.Square n) {bits : List Bool} {k r c : Nat} {b : Bool} (hcell : (g.freeIn l)[k]? = some (r, c))
    (hbit : bits[k]? = some b) : (placeBits l bits g).get r c = .data b := by
  induction l generalizing g bits k with
  | nil => cases hcell
  | cons x l ih =>
    obtain ⟨a, d⟩ := x
    obtain ⟨hnotmem, hnodup⟩ := List.nodup_cons.1 hnodup
    have hrest : ∀ r c, (r, c) ∈ l → r < n ∧ c < n := fun r c h => hl r c (List.mem_cons_of_mem _ h)
    by_cases hfree : (g.get a d).isFree = true
    · obtain ⟨ha, hd⟩ := hl a d List.mem_cons_self
      obtain ⟨first, bits, rfl⟩ := List.exists_cons_of_ne_nil (List.ne_nil_of_mem (List.mem_of_getElem? hbit))
      have hsquare := Grid.set_square hg a d (.data first)
      rw [Grid.freeIn_cons_of_free hfree] at hcell
      rw [placeBits_cons_of_free hfree]
      cases k with
      | zero =>
        cases hcell
        cases hbit
        have hlater : (r, c) ∉ (g.set r c (.data b)).freeIn l := fun h => hnotmem (List.mem_of_mem_filter h)
        rw [placeBits_get_of_not_mem hrest hsquare _ hlater, Grid.get_set hg ha hd, if_pos ⟨rfl, rfl⟩]
      | succ k =>
        refine ih hrest hnodup hsquare ?_ hbit
        rw [Grid.freeIn_set_data hg ha hd hfree]
        exact hcell
    · rw [Grid.freeIn_cons_of_not_free hfree] at hcell
      rw [placeBits_cons_of_not_free hfree]
      exact ih hrest hnodup hg hcell hbit

/-! ### The stream bits of CW (R267) -/

theorem bitsOfByte_getElem? (x : Byte) {j : Nat} (hj : j < 8) : (bitsOfByte x)[j]? = some (x.getLsbD (7 - j)) := by
  interval_cases j <;> rfl

theorem bitsOfBytes_getElem? (bs : List Byte) (k : Nat) :
    (bitsOfBytes bs)[k]? = bs[k / 8]?.map fun x => x.getLsbD (7 - k % 8) := by
  have hbit : k % 8 < 8 := Nat.mod_lt k (by decide)
  have hpos := getElem?_flatMap_of_length (f := bitsOfByte) (l := bs) (fun _ _ => rfl) (k / 8) hbit
  rw [Nat.div_add_mod'] at hpos
  simp only [bitsOfBytes, hpos, bitsOfByte_getElem? _ hbit, Option.map_eq_bind, Function.comp_def]

theorem State.streamBits_getElem? (s : State) {l k : Nat} (hk : k < l) : (s.streamBits l)[k]? = some (s.streamBit k) := by
  have hbyte : k / 8 < (l + 7) / 8 := by omega
  rw [State.streamBits, List.getElem?_take_of_lt hk, bitsOfBytes_getElem?, State.readBuf, Memory.readRange_eq,
    List.getElem?_map, List.getElem?_range hbyte]
  rfl

/-! ### PLACE_DATA -/

theorem mem_scan_size {v r c : Nat} : (r, c) ∈ scan (size v) ↔ r < size v ∧ c < size v ∧ c ≠ 6 :=
  mem_scan (size_odd v) (seven_le_size v)

theorem scan_size_nodup (v : Nat) : (scan (size v)).Nodup := scan_nodup (size_odd v) (seven_le_size v)

theorem scan_size_bounds {v : Nat} (r c : Nat) (h : (r, c) ∈ scan (size v)) : r < size v ∧ c < size v :=
  let ⟨hr, hc, _⟩ := mem_scan_size.1 h
  ⟨hr, hc⟩

theorem State.freeIn_readGrid (s : State) (v : Nat) : (s.readGrid .grid v).freeIn (scan (size v)) = s.freeInScan v := by
  refine List.filter_congr fun ⟨r, c⟩ hrc => ?_
  obtain ⟨hr, hc⟩ := scan_size_bounds r c hrc
  rw [s.get_readGrid hr hc]

/-- The scan passes over no more free cells than the region has: column 6 is left out. -/
theorem State.length_freeInScan_le (s : State) (v : Nat) : (s.freeInScan v).length ≤ s.countCells v Cell.isFree := by
  have hsub : scan (size v) ⊆ coordinates (size v) := fun ⟨r, c⟩ h => mem_coordinates.2 (scan_size_bounds r c h)
  rw [State.freeInScan, ← List.countP_eq_length_filter]
  exact ((scan_size_nodup v).subperm hsub).countP_le _

/-- The region PLACE_DATA leaves, before the completion: the k-th free cell of the scan holds stream bit k (R341). -/
theorem placeEffect_cell_of_free {s : State} {v l k r c : Nat} (hl : s.countCells v Cell.isFree ≤ l)
    (h : (s.freeInScan v)[k]? = some (r, c)) :
    (placeBits (scan (size v)) (s.streamBits l) (s.readGrid .grid v)).get r c = .data (s.streamBit k) := by
  have hk : k < l := by
    obtain ⟨hlt, _⟩ := List.getElem?_eq_some_iff.1 h
    have := s.length_freeInScan_le v
    omega
  exact placeBits_get_of_free scan_size_bounds (scan_size_nodup v) (s.readGrid_square .grid v)
    (s.freeIn_readGrid v ▸ h) (s.streamBits_getElem? hk)

/-- Settles O34: the checks by coordinate, then the placement loop by the position of each free cell in the scan. -/
theorem placeDataResult : Obligations.PlaceDataResult := by
  intro s p hp v bad matching
  let g := s.readGrid .grid v
  have hbad : g.anyCell Cell.isInvalid = true ↔ bad := s.anyCell_readGrid v _
  have hcount : g.count Cell.isFree = s.countCells v Cell.isFree := s.count_readGrid v _
  have hbody : bodyOf .placeData p s = checkVersion p s (placeOn v p.cwBits.toNat g s) := rfl
  refine ⟨exec_outOfRange hp hbody, fun hv hb => ?badCell, fun hv hb hm => ?mismatch, fun hv hb hm => ?places⟩
  case badCell =>
    rw [placeOn, if_pos (hbad.2 hb)] at hbody
    exact exec_inRange hp hbody hv
  case mismatch =>
    rw [placeOn, if_neg (hbad.not.2 hb), if_neg (hcount ▸ hm)] at hbody
    exact exec_inRange hp hbody hv
  case places =>
    rw [placeOn, if_neg (hbad.not.2 hb), if_pos (hcount.trans hm)] at hbody
    have hsquare := placeBits_square (scan (size v)) (s.streamBits p.cwBits.toNat) (s.readGrid_square .grid v)
    refine ⟨_, exec_inRange hp hbody hv, rfl, fun k r c hk => ?free, fun r c hr hc hrc => ?kept, fun a ha => ?frame⟩
    case free =>
      obtain ⟨hr, hc⟩ := scan_size_bounds r c (List.mem_of_mem_filter (List.mem_of_getElem? hk))
      refine (s.read_gridAddr_writeGrid hsquare hr hc).trans ?_
      rw [placeEffect_cell_of_free hm.le hk]
      cases s.streamBit k <;> rfl
    case kept =>
      have hcell := placeBits_get_of_not_mem scan_size_bounds (s.readGrid_square .grid v) (s.streamBits p.cwBits.toNat)
        (s.freeIn_readGrid v ▸ hrc)
      refine (congrArg Cell.ofByte (s.read_gridAddr_writeGrid hsquare hr hc)).trans ?_
      rw [Cell.ofByte_toByte, hcell, s.get_readGrid hr hc]
    case frame => exact s.read_writeGrid_outside hsquare .grid ha

end Sys2Proof.Machine
end

section
/-! SUPPORT. The function patterns by coordinate: where each pattern of BUILD_FUNC lies and what it holds there
(spec/42_placement.md R321 to R331). -/

namespace Sys2Proof.Machine

theorem dist_eq_natAbs (a b : Nat) : dist a b = ((a : Int) - b).natAbs := by
  unfold dist
  omega

theorem natBit_eq_testBit (x i : Nat) : natBit x i = x.testBit i := by
  rw [natBit, Nat.testBit_eq_decide_div_mod_eq]
  rfl

/-! ### Version information and timing -/

theorem versionBitAt_eq_none_iff {v r c : Nat} : versionBitAt v r c = none ↔
    ¬(7 ≤ v ∧ (r ≤ 5 ∧ size v - 11 ≤ c ∧ c ≤ size v - 9 ∨ c ≤ 5 ∧ size v - 11 ≤ r ∧ r ≤ size v - 9)) := by
  simp only [versionBitAt, Bool.and_eq_true, Nat.ble_eq, Nat.blt_eq]
  split_ifs <;> simp <;> omega

/-- Versions with version information have regions that keep it apart from the corners. -/
theorem size_ge_of_seven_le {v : Nat} (hv : 7 ≤ v) : 45 ≤ size v := by
  unfold size
  omega

/-- Bit i stands at (i div 3, n−11 + i mod 3) and transposed (R329). -/
theorem versionBitAt_block {v i : Nat} (hv : 7 ≤ v) (hi : i < 18) :
    versionBitAt v (i / 3) (size v - 11 + i % 3) = some i ∧ versionBitAt v (size v - 11 + i % 3) (i / 3) = some i := by
  have hsize := size_ge_of_seven_le hv
  simp only [versionBitAt, Bool.and_eq_true, Nat.ble_eq, Nat.blt_eq]
  constructor
  · rw [if_neg (by omega), if_pos (by omega), Option.some_inj]
    omega
  · rw [if_neg (by omega), if_neg (by omega), if_pos (by omega), Option.some_inj]
    omega

theorem timingAt_eq_none_iff {n r c : Nat} : timingAt n r c = none ↔
    ¬(r = 6 ∧ 8 ≤ c ∧ c ≤ n - 9) ∧ ¬(c = 6 ∧ 8 ≤ r ∧ r ≤ n - 9) := by
  simp only [timingAt, Bool.and_eq_true, Nat.ble_eq, beq_iff_eq]
  split_ifs <;> simp <;> omega

/-- The timing pattern alternates along row 6 and column 6, dark where even (R326). -/
theorem timingAt_line {n i : Nat} (hlo : 8 ≤ i) (hhi : i ≤ n - 9) :
    timingAt n 6 i = some (.func (decide (i % 2 = 0))) ∧ timingAt n i 6 = some (.func (decide (i % 2 = 0))) := by
  have h6 : i ≠ 6 := by omega
  constructor <;> simp [timingAt, hlo, hhi, h6] <;> rfl

/-! ### Format cells (R328) -/

/-- The first-copy cell of format bit `i`. -/
def formatFirstCell (i : Nat) : Nat × Nat :=
  if i < 6 then (i, 8) else if i = 6 then (7, 8) else if i = 7 then (8, 8) else if i = 8 then (8, 7) else (8, 14 - i)

/-- The second-copy cell of format bit `i`. -/
def formatSecondCell (n i : Nat) : Nat × Nat := if i < 8 then (8, n - 1 - i) else (n - 15 + i, 8)

theorem formatFirst_eq : formatFirst = (List.range 15).map formatFirstCell := by decide

theorem formatSecond_eq {n : Nat} (hn : 21 ≤ n) : formatSecond n = (List.range 15).map (formatSecondCell n) := by
  obtain ⟨k, rfl⟩ : ∃ k, n = k + 15 := ⟨n - 15, by omega⟩
  rfl

/-- In a list of the cells of a numbering, a cell's place is its number. -/
theorem coordIndex_map_eq_some_iff {f : Nat → Nat × Nat} {m : Nat} (hf : ∀ i < m, ∀ j < m, f i = f j → i = j) {k l : Nat}
    (hm : k + l = m) (r c i : Nat) :
    coordIndex r c k ((List.range' k l).map f) = some i ↔ k ≤ i ∧ i < m ∧ f i = (r, c) := by
  induction l generalizing k with
  | zero =>
    simp only [List.range'_zero, List.map_nil, coordIndex, reduceCtorEq, false_iff]
    omega
  | succ l ih =>
    have hfirst : ((f k).1 == r && (f k).2 == c) = true ↔ f k = (r, c) := by simp [Prod.ext_iff]
    rw [List.range'_succ, List.map_cons, coordIndex]
    by_cases hk : f k = (r, c)
    · rw [if_pos (hfirst.2 hk), Option.some_inj]
      exact ⟨fun h => h ▸ ⟨le_rfl, by omega, hk⟩, fun ⟨_, hi, h⟩ => hf k (by omega) i hi (hk.trans h.symm)⟩
    · rw [if_neg (hfirst.not.2 hk), ih (by omega)]
      have hne : f i = (r, c) → i ≠ k := fun h hik => hk (hik ▸ h)
      exact ⟨fun ⟨hi, h⟩ => ⟨by omega, h⟩, fun ⟨hi, hlt, h⟩ => ⟨by have := hne h; omega, hlt, h⟩⟩

theorem formatFirst_place (r c i : Nat) :
    coordIndex r c 0 formatFirst = some i ↔ i < 15 ∧ formatFirstCell i = (r, c) := by
  rw [formatFirst_eq, List.range_eq_range', coordIndex_map_eq_some_iff (m := 15) (by decide) rfl]
  simp

theorem formatSecond_place {n : Nat} (hn : 21 ≤ n) (r c i : Nat) :
    coordIndex r c 0 (formatSecond n) = some i ↔ i < 15 ∧ formatSecondCell n i = (r, c) := by
  have hinj : ∀ i < 15, ∀ j < 15, formatSecondCell n i = formatSecondCell n j → i = j := by
    intro i hi j hj
    unfold formatSecondCell
    split_ifs <;> simp only [Prod.mk.injEq] <;> omega
  rw [formatSecond_eq hn, List.range_eq_range', coordIndex_map_eq_some_iff (m := 15) hinj rfl]
  simp

/-- A format cell carries the bit whose first or second cell it is. -/
theorem formatBitAt_eq_some_iff {n : Nat} (hn : 21 ≤ n) (r c i : Nat) : formatBitAt n r c = some i ↔
    i < 15 ∧ (formatFirstCell i = (r, c) ∨ formatSecondCell n i = (r, c)) := by
  have hfirst := formatFirst_place r c
  have hsecond := formatSecond_place hn r c
  have hline {j} : formatFirstCell j = (r, c) ∨ formatSecondCell n j = (r, c) → r = 8 ∨ c = 8 := by
    unfold formatFirstCell formatSecondCell
    split_ifs <;> simp only [Prod.mk.injEq] <;> omega
  have hapart {j k} : j < 15 → formatFirstCell j = (r, c) → k < 15 → formatSecondCell n k ≠ (r, c) := by
    unfold formatFirstCell formatSecondCell
    split_ifs <;> simp only [Prod.mk.injEq, ne_eq] <;> omega
  rw [formatBitAt]
  by_cases hguard : r = 8 ∨ c = 8
  · rw [if_pos (by simpa using hguard)]
    cases hplace : coordIndex r c 0 formatFirst with
    | some j =>
      obtain ⟨hj, hcell⟩ := (hfirst j).1 hplace
      rw [Option.some_inj]
      refine ⟨fun h => h ▸ ⟨hj, .inl hcell⟩, fun ⟨hi, h⟩ => ?_⟩
      rcases h with h | h
      · exact Option.some_inj.1 (hplace.symm.trans ((hfirst i).2 ⟨hi, h⟩))
      · exact absurd h (hapart hj hcell hi)
    | none =>
      rw [hsecond]
      refine ⟨fun ⟨hi, h⟩ => ⟨hi, .inr h⟩, fun ⟨hi, h⟩ => ⟨hi, h.resolve_left fun hcell => ?_⟩⟩
      exact Option.some_ne_none i (((hfirst i).2 ⟨hi, hcell⟩).symm.trans hplace)
  · rw [if_neg (by simpa using hguard)]
    exact ⟨nofun, fun ⟨_, h⟩ => absurd (hline h) hguard⟩

/-- The 30 format cells of a region: on row 8 and column 8, beside the finders but off the timing lines. -/
def isFormatCell (n r c : Nat) : Prop :=
  r = 8 ∧ (c ≤ 8 ∧ c ≠ 6 ∨ n - 8 ≤ c) ∨ c = 8 ∧ (r ≤ 8 ∧ r ≠ 6 ∨ n - 7 ≤ r)

theorem formatBitAt_eq_none_iff {n r c : Nat} (hn : 21 ≤ n) (hr : r < n) (hc : c < n) :
    formatBitAt n r c = none ↔ ¬isFormatCell n r c := by
  simp only [Option.eq_none_iff_forall_ne_some, ne_eq, formatBitAt_eq_some_iff hn]
  unfold isFormatCell
  constructor
  · rintro hnone (⟨rfl, hc8 | hc8⟩ | ⟨rfl, hr8 | hr8⟩)
    · have := hnone (if c < 6 then 14 - c else 15 - c)
      unfold formatFirstCell at this
      grind
    · have := hnone (n - 1 - c)
      unfold formatSecondCell at this
      grind
    · have := hnone (if r < 6 then r else r - 1)
      unfold formatFirstCell at this
      grind
    · have := hnone (r + 15 - n)
      unfold formatSecondCell at this
      grind
  · rintro hcell i ⟨hi, h⟩
    unfold formatFirstCell formatSecondCell at h
    refine hcell ?_
    split_ifs at h <;> simp only [Prod.mk.injEq] at h <;> omega

/-! ### Alignment patterns (R323 to R325) -/

/-- Alignment coordinates are even; they are 6, n−7, or lie far from both. -/
theorem align_places : ∀ v, versionOk v = true → ∀ a ∈ align v,
    a % 2 = 0 ∧ (a = 6 ∨ a + 7 = size v ∨ 22 ≤ a ∧ a + 23 ≤ size v) :=
  of_every_version (by decide)

/-- Alignment coordinates lie at least 12 apart. -/
theorem align_apart : ∀ v, versionOk v = true → ∀ a ∈ align v, ∀ b ∈ align v, a = b ∨ a + 12 ≤ b ∨ b + 12 ≤ a :=
  of_every_version (by decide)

/-- Version 1 has no alignment patterns, so that a coordinate makes the region wider. -/
theorem size_ge_of_mem_align : ∀ v, versionOk v = true → ∀ a ∈ align v, 25 ≤ size v :=
  of_every_version (by decide)

/-- The centre of the alignment pattern at coordinates `a` and `b` is within two modules of (r, c), and the pattern is not
one of the three skipped for the finders. -/
structure AlignCovers (v r c a b : Nat) : Prop where
  row : a ∈ align v
  col : b ∈ align v
  kept : (a, b) ∉ [(6, 6), (6, size v - 7), (size v - 7, 6)]
  rowNear : dist r a ≤ 2
  colNear : dist c b ≤ 2

theorem alignNear_eq_some_iff {v x a : Nat} (hv : versionOk v = true) :
    alignNear v x = some a ↔ a ∈ align v ∧ dist x a ≤ 2 := by
  constructor
  · intro h
    have hnear := List.find?_some (p := fun a => Nat.ble (dist x a) 2) h
    exact ⟨List.mem_of_find?_eq_some h, Nat.ble_eq.mp hnear⟩
  · rintro ⟨hmem, hnear⟩
    cases hfound : alignNear v x with
    | none => exact absurd (Nat.ble_eq.mpr hnear) (List.find?_eq_none.1 hfound a hmem)
    | some b =>
      have hb := Nat.ble_eq.mp (List.find?_some (p := fun a => Nat.ble (dist x a) 2) hfound)
      have := align_apart v hv a hmem b (List.mem_of_find?_eq_some hfound)
      unfold dist at hnear hb
      rw [Option.some_inj]
      omega

theorem boxMeetsFinderZone_iff {v a b : Nat} (hv : versionOk v = true) (ha : a ∈ align v) (hb : b ∈ align v) :
    boxMeetsFinderZone (size v) a b = true ↔ (a, b) ∈ [(6, 6), (6, size v - 7), (size v - 7, 6)] := by
  have hrow := align_places v hv a ha
  have hcol := align_places v hv b hb
  have hsize := size_ge_of_mem_align v hv a ha
  simp only [boxMeetsFinderZone, Bool.or_eq_true, Bool.and_eq_true, Nat.ble_eq, List.mem_cons, Prod.mk.injEq,
    List.not_mem_nil, or_false]
  omega

/-- The alignment pattern that covers a cell, by its centre. -/
theorem alignAt_eq_some_iff {v r c : Nat} (hv : versionOk v = true) (x : Cell) :
    alignAt v r c = some x ↔ ∃ a b, AlignCovers v r c a b ∧ x = alignCell (dist r a) (dist c b) := by
  constructor
  · intro h
    unfold alignAt at h
    split at h
    · cases h
    · next a hrow =>
      split at h
      · cases h
      · next b hcol =>
        obtain ⟨ha, hra⟩ := (alignNear_eq_some_iff hv).1 hrow
        obtain ⟨hb, hcb⟩ := (alignNear_eq_some_iff hv).1 hcol
        split at h
        · cases h
        · next hzone =>
          exact ⟨a, b, ⟨ha, hb, (boxMeetsFinderZone_iff hv ha hb).not.1 hzone, hra, hcb⟩, (Option.some_inj.1 h).symm⟩
  · rintro ⟨a, b, h, rfl⟩
    have hrow := (alignNear_eq_some_iff hv).2 ⟨h.row, h.rowNear⟩
    have hcol := (alignNear_eq_some_iff hv).2 ⟨h.col, h.colNear⟩
    simp only [alignAt, hrow, hcol, (boxMeetsFinderZone_iff hv h.row h.col).not.2 h.kept, Bool.false_eq_true, if_false]

theorem alignAt_eq_none_iff {v r c : Nat} (hv : versionOk v = true) :
    alignAt v r c = none ↔ ∀ a b, ¬AlignCovers v r c a b := by
  simp only [Option.eq_none_iff_forall_ne_some, ne_eq, alignAt_eq_some_iff hv]
  exact ⟨fun h a b hab => h _ ⟨a, b, hab, rfl⟩, fun h x ⟨a, b, hab, _⟩ => h a b hab⟩

/-- An alignment pattern keeps away from the region's edge and from the corners. -/
theorem AlignCovers.bounds {v r c a b : Nat} (hv : versionOk v = true) (h : AlignCovers v r c a b) :
    4 ≤ r ∧ r + 5 ≤ size v ∧ 4 ≤ c ∧ c + 5 ≤ size v ∧ (r ≤ 8 → 20 ≤ c ∧ c + 21 ≤ size v) ∧
      (c ≤ 8 → 20 ≤ r ∧ r + 21 ≤ size v) := by
  obtain ⟨ha, hb, hkept, hra, hcb⟩ := h
  obtain ⟨_, hrow⟩ := align_places v hv a ha
  obtain ⟨_, hcol⟩ := align_places v hv b hb
  have hsize := size_ge_of_mem_align v hv a ha
  have hra : a ≤ r + 2 ∧ r ≤ a + 2 := by unfold dist at hra; omega
  have hcb : b ≤ c + 2 ∧ c ≤ b + 2 := by unfold dist at hcb; omega
  simp only [List.mem_cons, Prod.mk.injEq, List.not_mem_nil, or_false] at hkept
  rcases hrow with hrow | hrow | hrow <;> rcases hcol with hcol | hcol | hcol <;> omega

/-! ### Finders and separators (R321, R322) -/

theorem isSeparator_iff {n r c : Nat} : isSeparator n r c = true ↔
    r = 7 ∧ (c ≤ 7 ∨ n - 8 ≤ c) ∨ c = 7 ∧ (r ≤ 7 ∨ n - 8 ≤ r) ∨ r ≤ 7 ∧ c = n - 8 ∨ r = n - 8 ∧ c ≤ 7 := by
  simp only [isSeparator, Bool.or_eq_true, Bool.and_eq_true, Nat.ble_eq, beq_iff_eq, or_assoc]

theorem finderAt_eq_none_iff {n r c : Nat} :
    finderAt n r c = none ↔ ¬(r ≤ 6 ∧ c ≤ 6 ∨ r ≤ 6 ∧ n - 7 ≤ c ∨ n - 7 ≤ r ∧ c ≤ 6) := by
  simp only [finderAt, Bool.and_eq_true, Nat.ble_eq]
  split_ifs <;> simp <;> omega

theorem finderCell_eq (dr dc : Nat) :
    finderCell dr dc = .func (decide (max ((dr : Int) - 3).natAbs ((dc : Int) - 3).natAbs ≠ 2)) := by
  rw [finderCell, dist_eq_natAbs, dist_eq_natAbs, decide_not]
  rfl

end Sys2Proof.Machine
end

section
/-! SUPPORT. The function patterns in their order: what BUILD_FUNC leaves where, and which cells it leaves free
(spec/42_placement.md R331, R332). -/

namespace Sys2Proof.Machine

/-! ### The patterns in their order (R331): a cell holds the last pattern written to it -/

section
variable {v r c : Nat}

theorem funcCell_of_version {i : Nat} (h : versionBitAt v r c = some i) :
    funcCell v r c = .func ((versionInfo v).testBit i) := by
  simp only [funcCell, h, natBit_eq_testBit]

theorem funcCell_of_format {i : Nat} (hversion : versionBitAt v r c = none) (h : formatBitAt (size v) r c = some i) :
    funcCell v r c = .reserved := by
  simp only [funcCell, hversion, h, Option.isSome_some, if_true]

theorem funcCell_of_dark (hversion : versionBitAt v r c = none) (hformat : formatBitAt (size v) r c = none)
    (h : r = size v - 8 ∧ c = 8) : funcCell v r c = .func true := by
  obtain ⟨rfl, rfl⟩ := h
  simp [funcCell, hversion, hformat]

variable (hversion : versionBitAt v r c = none) (hformat : formatBitAt (size v) r c = none)
  (hdark : ¬(r = size v - 8 ∧ c = 8))
include hversion hformat hdark

theorem funcCell_of_timing {x : Cell} (h : timingAt (size v) r c = some x) : funcCell v r c = x := by
  simp [funcCell, hversion, hformat, hdark, h]

theorem funcCell_of_align {x : Cell} (htiming : timingAt (size v) r c = none) (h : alignAt v r c = some x) :
    funcCell v r c = x := by
  simp [funcCell, hversion, hformat, hdark, htiming, h]

theorem funcCell_of_base (htiming : timingAt (size v) r c = none) (halign : alignAt v r c = none) :
    funcCell v r c =
      if isSeparator (size v) r c then .func false else (finderAt (size v) r c).getD .unfilled := by
  simp [funcCell, hversion, hformat, hdark, htiming, halign]

end

/-! ### The cells no pattern covers -/

/-- No pattern of R332 covers the cell. -/
structure Uncovered (v r c : Nat) : Prop where
  version : versionBitAt v r c = none
  format : formatBitAt (size v) r c = none
  dark : ¬(r = size v - 8 ∧ c = 8)
  timing : timingAt (size v) r c = none
  align : alignAt v r c = none
  separator : ¬isSeparator (size v) r c = true
  finder : finderAt (size v) r c = none

theorem Uncovered.funcCell {v r c : Nat} (h : Uncovered v r c) : funcCell v r c = .unfilled := by
  rw [funcCell_of_base h.version h.format h.dark h.timing h.align, if_neg h.separator, h.finder, Option.getD_none]

theorem timingAt_isFunc {n r c : Nat} {x : Cell} (h : timingAt n r c = some x) : ∃ b, x = .func b := by
  unfold timingAt at h
  split_ifs at h <;> exact ⟨_, (Option.some_inj.1 h).symm⟩

theorem finderAt_isFunc {n r c : Nat} {x : Cell} (h : finderAt n r c = some x) : ∃ b, x = .func b := by
  unfold finderAt at h
  split_ifs at h <;> exact ⟨_, (Option.some_inj.1 h).symm⟩

theorem alignAt_isFunc {v r c : Nat} {x : Cell} (h : alignAt v r c = some x) : ∃ b, x = .func b := by
  unfold alignAt at h
  split at h
  · cases h
  · split at h
    · cases h
    · split at h
      · cases h
      · exact ⟨_, (Option.some_inj.1 h).symm⟩

/-- BUILD_FUNC leaves a function module, a format cell still to be written, or a cell no pattern covers. -/
theorem funcCell_cases (v r c : Nat) :
    (∃ b, funcCell v r c = .func b) ∨ funcCell v r c = .reserved ∨ Uncovered v r c := by
  cases hversion : versionBitAt v r c with
  | some i => exact .inl ⟨_, funcCell_of_version hversion⟩
  | none =>
  cases hformat : formatBitAt (size v) r c with
  | some i => exact .inr (.inl (funcCell_of_format hversion hformat))
  | none =>
  by_cases hdark : r = size v - 8 ∧ c = 8
  · exact .inl ⟨_, funcCell_of_dark hversion hformat hdark⟩
  cases htiming : timingAt (size v) r c with
  | some x => exact .inl (funcCell_of_timing hversion hformat hdark htiming ▸ timingAt_isFunc htiming)
  | none =>
  cases halign : alignAt v r c with
  | some x => exact .inl (funcCell_of_align hversion hformat hdark htiming halign ▸ alignAt_isFunc halign)
  | none =>
  have hbase := funcCell_of_base hversion hformat hdark htiming halign
  by_cases hsep : isSeparator (size v) r c = true
  · exact .inl ⟨false, hbase.trans (if_pos hsep)⟩
  rw [if_neg hsep] at hbase
  cases hfinder : finderAt (size v) r c with
  | some x => exact .inl (hbase ▸ hfinder ▸ finderAt_isFunc hfinder)
  | none => exact .inr (.inr ⟨hversion, hformat, hdark, htiming, halign, hsep, hfinder⟩)

theorem funcCell_isFree_iff_uncovered {v r c : Nat} : (funcCell v r c).isFree = true ↔ Uncovered v r c := by
  refine ⟨fun h => ?_, fun h => by rw [h.funcCell]; rfl⟩
  rcases funcCell_cases v r c with ⟨b, hcell⟩ | hcell | huncovered
  · rw [hcell] at h
    cases h
  · rw [hcell] at h
    cases h
  · exact huncovered

/-- The part of the region that finders, separators and format cells fill with the timing lines' ends. -/
def inCorner (n r c : Nat) : Prop := r ≤ 8 ∧ c ≤ 8 ∨ r ≤ 8 ∧ n - 8 ≤ c ∨ n - 8 ≤ r ∧ c ≤ 8

/-- The two blocks of version information (R329). -/
def inVersionBlock (v r c : Nat) : Prop :=
  7 ≤ v ∧ (r ≤ 5 ∧ size v - 11 ≤ c ∧ c ≤ size v - 9 ∨ c ≤ 5 ∧ size v - 11 ≤ r ∧ r ≤ size v - 9)

/-- The free cells: those outside the corners, the timing lines, the version blocks and the alignment patterns. -/
theorem funcCell_isFree_iff {v r c : Nat} (hv : versionOk v = true) (hr : r < size v) (hc : c < size v) :
    (funcCell v r c).isFree = true ↔
      ¬inCorner (size v) r c ∧ r ≠ 6 ∧ c ≠ 6 ∧ ¬inVersionBlock v r c ∧ ∀ a b, ¬AlignCovers v r c a b := by
  have hsize := size_ge v
  rw [funcCell_isFree_iff_uncovered, ← alignAt_eq_none_iff hv, inVersionBlock, ← versionBitAt_eq_none_iff]
  constructor
  · intro h
    have hformat := (formatBitAt_eq_none_iff hsize hr hc).1 h.format
    have hdark := h.dark
    have htiming := timingAt_eq_none_iff.1 h.timing
    have hseparator := isSeparator_iff.not.1 h.separator
    have hfinder := finderAt_eq_none_iff.1 h.finder
    unfold isFormatCell at hformat
    refine ⟨?_, by omega, by omega, h.version, h.align⟩
    unfold inCorner
    omega
  · rintro ⟨hcorner, hr6, hc6, hversion, halign⟩
    unfold inCorner at hcorner
    refine ⟨hversion, (formatBitAt_eq_none_iff hsize hr hc).2 ?_, by omega, timingAt_eq_none_iff.2 (by omega), halign,
      isSeparator_iff.not.2 (by omega), finderAt_eq_none_iff.2 (by omega)⟩
    unfold isFormatCell
    omega

end Sys2Proof.Machine
end

section
/-! SUPPORT. Each function pattern's cells (spec/42_placement.md R321 to R330). -/

namespace Sys2Proof.Machine

section
variable {v r c : Nat} (hv : versionOk v = true)
include hv

/-- In the three corners nothing is written after finders and separators but the format cells, which lie outside these. -/
theorem funcCell_of_corner (hr : r < size v) (hc : c < size v)
    (h : r ≤ 7 ∧ c ≤ 7 ∨ r ≤ 7 ∧ size v - 8 ≤ c ∨ size v - 8 ≤ r ∧ c ≤ 7) :
    funcCell v r c = if isSeparator (size v) r c then .func false else (finderAt (size v) r c).getD .unfilled := by
  have hsize := size_ge v
  refine funcCell_of_base (versionBitAt_eq_none_iff.2 ?_) ((formatBitAt_eq_none_iff hsize hr hc).2 ?_) ?_
    (timingAt_eq_none_iff.2 ?_) ((alignAt_eq_none_iff hv).2 fun a b hab => ?_)
  · omega
  · unfold isFormatCell
    omega
  · omega
  · omega
  · have := hab.bounds hv
    omega

theorem funcCell_of_finder (hr : r < size v) (hc : c < size v)
    (h : r ≤ 6 ∧ c ≤ 6 ∨ r ≤ 6 ∧ size v - 7 ≤ c ∨ size v - 7 ≤ r ∧ c ≤ 6) {x : Cell} (hx : finderAt (size v) r c = some x) :
    funcCell v r c = x := by
  have hsize := size_ge v
  have hsep : ¬isSeparator (size v) r c = true := isSeparator_iff.not.2 (by omega)
  rw [funcCell_of_corner hv hr hc (by omega), if_neg hsep, hx, Option.getD_some]

theorem funcCell_of_separator (hr : r < size v) (hc : c < size v)
    (h : r = 7 ∧ (c ≤ 7 ∨ size v - 8 ≤ c) ∨ c = 7 ∧ (r ≤ 7 ∨ size v - 8 ≤ r) ∨ r ≤ 7 ∧ c = size v - 8 ∨
      r = size v - 8 ∧ c ≤ 7) : funcCell v r c = .func false := by
  have hsize := size_ge v
  rw [funcCell_of_corner hv hr hc (by omega), if_pos (isSeparator_iff.2 h)]

end

theorem finderAt_corners {n dr dc : Nat} (hn : 21 ≤ n) (hdr : dr < 7) (hdc : dc < 7) :
    finderAt n dr dc = some (finderCell dr dc) ∧ finderAt n dr (n - 7 + dc) = some (finderCell dr dc) ∧
      finderAt n (n - 7 + dr) dc = some (finderCell dr dc) := by
  simp only [finderAt, Bool.and_eq_true, Nat.ble_eq]
  refine ⟨?_, ?_, ?_⟩
  · rw [if_pos (by omega)]
  · rw [if_neg (by omega), if_pos (by omega), Nat.add_sub_cancel_left]
  · rw [if_neg (by omega), if_neg (by omega), if_pos (by omega), Nat.add_sub_cancel_left]

/-- The format cells come after every pattern but version information, which lies elsewhere. -/
theorem funcCell_of_formatBit {v r c i : Nat} (hr : r < size v) (hc : c < size v)
    (h : formatBitAt (size v) r c = some i) : funcCell v r c = .reserved := by
  have hsize := size_ge v
  have hcell : isFormatCell (size v) r c := by
    by_contra hnot
    exact Option.some_ne_none i (h.symm.trans ((formatBitAt_eq_none_iff hsize hr hc).2 hnot))
  refine funcCell_of_format (versionBitAt_eq_none_iff.2 fun ⟨hseven, _⟩ => ?_) h
  have hlarge := size_ge_of_seven_le hseven
  unfold isFormatCell at hcell
  omega

theorem formatCells_lt {n i : Nat} (hn : 21 ≤ n) (hi : i < 15) :
    (formatFirstCell i).1 < n ∧ (formatFirstCell i).2 < n ∧ (formatSecondCell n i).1 < n ∧ (formatSecondCell n i).2 < n := by
  unfold formatFirstCell formatSecondCell
  split_ifs <;> simp only <;> omega

theorem alignCell_eq (dr dc : Nat) : alignCell dr dc = .func (decide (max dr dc ≠ 1)) := by
  rw [alignCell, decide_not]
  rfl

/-- An alignment pattern's cells. Where it lies on a timing line, the timing pattern written over it agrees with it,
because alignment coordinates are even. -/
theorem funcCell_of_covers {v r c a b : Nat} (hv : versionOk v = true) (h : AlignCovers v r c a b) :
    funcCell v r c = alignCell (dist r a) (dist c b) := by
  have hsize := size_ge v
  have hbounds := h.bounds hv
  obtain ⟨haeven, ha⟩ := align_places v hv a h.row
  obtain ⟨hbeven, hb⟩ := align_places v hv b h.col
  have hra := h.rowNear
  have hcb := h.colNear
  unfold dist at hra hcb
  have hversion : versionBitAt v r c = none := versionBitAt_eq_none_iff.2 (by omega)
  have hformat : formatBitAt (size v) r c = none :=
    (formatBitAt_eq_none_iff hsize (by omega) (by omega)).2 (by unfold isFormatCell; omega)
  have hdark : ¬(r = size v - 8 ∧ c = 8) := by omega
  by_cases hr6 : r = 6
  · subst hr6
    have htiming := (timingAt_line (n := size v) (i := c) (by omega) (by omega)).1
    have hparity : decide (c % 2 = 0) = decide (max (dist 6 a) (dist c b) ≠ 1) :=
      decide_eq_decide.2 (by unfold dist; omega)
    rw [funcCell_of_timing hversion hformat hdark htiming, alignCell_eq, hparity]
  by_cases hc6 : c = 6
  · subst hc6
    have htiming := (timingAt_line (n := size v) (i := r) (by omega) (by omega)).2
    have hparity : decide (r % 2 = 0) = decide (max (dist r a) (dist 6 b) ≠ 1) :=
      decide_eq_decide.2 (by unfold dist; omega)
    rw [funcCell_of_timing hversion hformat hdark htiming, alignCell_eq, hparity]
  · have htiming : timingAt (size v) r c = none := timingAt_eq_none_iff.2 (by omega)
    exact funcCell_of_align hversion hformat hdark htiming ((alignAt_eq_some_iff hv _).2 ⟨a, b, h, rfl⟩)

/-- The offset from an alignment pattern's corner gives the distance from its centre. -/
theorem dist_of_offset {a d : Nat} (ha : 2 ≤ a) : dist (a - 2 + d) a = ((d : Int) - 2).natAbs := by
  unfold dist
  omega

theorem funcCell_of_align_offset {v a b dr dc : Nat} (hv : versionOk v = true) (ha : a ∈ align v) (hb : b ∈ align v)
    (hkept : (a, b) ∉ [(6, 6), (6, size v - 7), (size v - 7, 6)]) (hdr : dr < 5) (hdc : dc < 5) :
    funcCell v (a - 2 + dr) (b - 2 + dc) =
      .func (decide (max ((dr : Int) - 2).natAbs ((dc : Int) - 2).natAbs ≠ 1)) := by
  have hrow := align_places v hv a ha
  have hcol := align_places v hv b hb
  have hsize := size_ge v
  have hr := dist_of_offset (d := dr) (show 2 ≤ a by omega)
  have hc := dist_of_offset (d := dc) (show 2 ≤ b by omega)
  rw [funcCell_of_covers hv ⟨ha, hb, hkept, by omega, by omega⟩, alignCell_eq, hr, hc]

theorem funcCell_of_timing_line {v i : Nat} (hlo : 8 ≤ i) (hhi : i ≤ size v - 9) :
    funcCell v 6 i = .func (decide (i % 2 = 0)) ∧ funcCell v i 6 = .func (decide (i % 2 = 0)) := by
  have hsize := size_ge v
  obtain ⟨hrow, hcol⟩ := timingAt_line (n := size v) hlo hhi
  constructor
  · refine funcCell_of_timing (versionBitAt_eq_none_iff.2 (by omega))
      ((formatBitAt_eq_none_iff hsize (by omega) (by omega)).2 ?_) (by omega) hrow
    unfold isFormatCell
    omega
  · refine funcCell_of_timing (versionBitAt_eq_none_iff.2 (by omega))
      ((formatBitAt_eq_none_iff hsize (by omega) (by omega)).2 ?_) (by omega) hcol
    unfold isFormatCell
    omega

theorem funcCell_of_dark_module (v : Nat) : funcCell v (size v - 8) 8 = .func true := by
  have hsize := size_ge v
  have hlarge := size_ge_of_seven_le (v := v)
  refine funcCell_of_dark (versionBitAt_eq_none_iff.2 (by omega))
    ((formatBitAt_eq_none_iff hsize (by omega) (by omega)).2 ?_) ⟨rfl, rfl⟩
  unfold isFormatCell
  omega

/-- Settles O53: pattern by pattern; no later pattern touches a cell but an agreeing one, and an uncovered cell is
UNFILLED. -/
theorem functionPatterns : Obligations.FunctionPatterns := by
  intro v hlo hhi n skipped
  have hv : versionOk v = true := (versionOk_iff v).2 ⟨hlo, hhi⟩
  have hsize : 21 ≤ n := size_ge v
  refine ⟨fun dr dc hdr hdc => ?finders, fun i hi => ?separators,
    fun a b dr dc ha hb hkept hdr hdc => funcCell_of_align_offset hv ha hb hkept hdr hdc,
    fun i hi hi' => funcCell_of_timing_line hi hi', funcCell_of_dark_module v, fun i hi => ?format,
    fun hseven i hi => ?version, fun r c hr hc hfilled => ?converse⟩
  case finders =>
    obtain ⟨htop, hright, hbottom⟩ := finderAt_corners hsize hdr hdc
    intro x
    rw [show x = finderCell dr dc from (finderCell_eq dr dc).symm]
    exact ⟨funcCell_of_finder hv (by omega) (by omega) (by omega) htop,
      funcCell_of_finder hv (by omega) (by omega) (by omega) hright,
      funcCell_of_finder hv (by omega) (by omega) (by omega) hbottom⟩
  case separators =>
    refine ⟨?_, ?_, ?_, ?_, ?_, ?_⟩ <;> exact funcCell_of_separator hv (by omega) (by omega) (by omega)
  case format =>
    obtain ⟨h1r, h1c, h2r, h2c⟩ := formatCells_lt hsize hi
    refine ⟨funcCell_of_formatBit h1r h1c ((formatBitAt_eq_some_iff hsize _ _ i).2 ⟨hi, .inl rfl⟩),
      funcCell_of_formatBit h2r h2c ((formatBitAt_eq_some_iff hsize _ _ i).2 ⟨hi, .inr rfl⟩), fun r c _ _ => ?_⟩
    rw [formatBitAt_eq_some_iff hsize, and_iff_right hi]
    exact or_congr eq_comm eq_comm
  case version =>
    obtain ⟨htop, hleft⟩ := versionBitAt_block hseven hi
    exact ⟨funcCell_of_version htop, funcCell_of_version hleft⟩
  case converse =>
    by_contra hnone
    simp only [not_or] at hnone
    obtain ⟨htl, htr, hbl, hr6, hc6, hdark, hformat, hversion, halign⟩ := hnone
    have hcovers (a b : Nat) (h : AlignCovers v r c a b) : False := by
      refine halign ⟨a, b, h.row, h.col, h.kept, ?_, ?_⟩
      · rw [← dist_eq_natAbs]
        exact h.rowNear
      · rw [← dist_eq_natAbs]
        exact h.colNear
    refine hfilled (Uncovered.funcCell ⟨versionBitAt_eq_none_iff.2 hversion, not_not.1 hformat,
      fun h => hdark (Prod.ext h.1 h.2), timingAt_eq_none_iff.2 (by omega), (alignAt_eq_none_iff hv).2 hcovers, isSeparator_iff.not.2 (by omega),
      finderAt_eq_none_iff.2 (by omega)⟩)

end Sys2Proof.Machine
end

section
/-! SUPPORT. How many cells BUILD_FUNC leaves free: the function patterns cut into parts that do not overlap, each all the
cells of some rows and some columns, so that its size is a product (spec/42_placement.md R336, R343). -/

namespace Sys2Proof.Machine

/-! ### Counting cells by parts -/

/-- The cells whose row and column lie in two sets. -/
structure Area where
  rows : Nat → Bool
  cols : Nat → Bool

def Area.covers (A : Area) (rc : Nat × Nat) : Bool := A.rows rc.1 && A.cols rc.2

/-- The number of an area's cells in an n×n region. -/
def Area.cells (n : Nat) (A : Area) : Nat := (List.range n).countP A.rows * (List.range n).countP A.cols

theorem Area.countP_covers (n : Nat) (A : Area) : (coordinates n).countP A.covers = A.cells n := by
  have hrows (l : List Nat) : (l.flatMap fun r => (List.range n).map fun c => (r, c)).countP A.covers =
      l.countP A.rows * (List.range n).countP A.cols := by
    induction l with
    | nil => simp
    | cons r l ih =>
      rw [List.flatMap_cons, List.countP_append, ih, List.countP_map, List.countP_cons]
      cases hr : A.rows r <;> simp [Function.comp_def, Area.covers, hr, Nat.add_mul, Nat.add_comm]
  exact hrows (List.range n)

theorem countP_or_of_disjoint {α : Type} {p q : α → Bool} {l : List α} (h : ∀ x ∈ l, ¬(p x = true ∧ q x = true)) :
    l.countP (fun x => p x || q x) = l.countP p + l.countP q := by
  induction l with
  | nil => rfl
  | cons x l ih =>
    have hx := h x List.mem_cons_self
    simp only [List.countP_cons, ih fun y hy => h y (List.mem_cons_of_mem x hy)]
    cases hp : p x <;> cases hq : q x
    case true.true => exact absurd ⟨hp, hq⟩ hx
    all_goals simp only [Bool.or_false, Bool.or_true, Bool.false_eq_true, if_true, if_false]; omega

/-- Areas that do not overlap hold together as many cells as the region has in any of them. -/
theorem countP_any_covers (n : Nat) {areas : List Area}
    (hapart : ∀ rc ∈ coordinates n, areas.Pairwise fun A B => ¬(A.covers rc = true ∧ B.covers rc = true)) :
    (coordinates n).countP (fun rc => areas.any fun A => A.covers rc) = (areas.map (Area.cells n)).sum := by
  induction areas with
  | nil => simp
  | cons A areas ih =>
    have hA : ∀ rc ∈ coordinates n, ¬(A.covers rc = true ∧ (areas.any fun B => B.covers rc) = true) := by
      rintro rc hrc ⟨hcovers, hany⟩
      obtain ⟨B, hB, hcovers'⟩ := List.any_eq_true.1 hany
      exact (List.pairwise_cons.1 (hapart rc hrc)).1 B hB ⟨hcovers, hcovers'⟩
    simp only [List.any_cons, List.map_cons, List.sum_cons]
    rw [countP_or_of_disjoint hA, A.countP_covers, ih fun rc hrc => (List.pairwise_cons.1 (hapart rc hrc)).2]

theorem countP_range_eq_card {n : Nat} {p : Nat → Bool} {s : Finset Nat} (h : ∀ x, x ∈ s ↔ x < n ∧ p x = true) :
    (List.range n).countP p = s.card := by
  have hs : s = ((List.range n).filter p).toFinset := by
    ext x
    simp [h]
  rw [hs, List.toFinset_card_of_nodup (List.nodup_range.filter _), List.countP_eq_length_filter]

/-! ### Sets of rows, which serve as sets of columns too -/

/-- The first nine: finder, separator and format cells of the top left corner. -/
def isLow (x : Nat) : Bool := Nat.ble x 8

/-- The last eight: separator and finder of a far corner. -/
def isHigh (n x : Nat) : Bool := Nat.ble (n - 8) x

/-- Between the corners. -/
def isMiddle (n x : Nat) : Bool := Nat.ble 9 x && Nat.ble x (n - 9)

/-- The timing line. -/
def isLine (x : Nat) : Bool := x == 6

/-- Beside the timing line, in an alignment pattern centred on it. -/
def isBeside (x : Nat) : Bool := x != 6 && (Nat.ble 4 x && Nat.ble x 8)

/-- The long side of a block of version information. -/
def isBlockLength (x : Nat) : Bool := Nat.ble x 5

/-- The short side of a block of version information, where there is one. -/
def isBlockWidth (v x : Nat) : Bool := Nat.ble 7 v && (Nat.ble (size v - 11) x && Nat.ble x (size v - 9))

/-- Within two modules of an alignment coordinate of a given kind. -/
def nearAlign (v : Nat) (kind : Nat → Bool) (x : Nat) : Bool := (align v).any fun a => kind a && Nat.ble (dist x a) 2

/-- Near an alignment coordinate off the timing line. -/
def nearOuter (v x : Nat) : Bool := nearAlign v (fun a => a != 6) x

/-- Near an alignment coordinate other than the first, 6, and the last, n−7. -/
def nearInner (v x : Nat) : Bool := nearAlign v (fun a => a != 6 && a + 7 != size v) x

section
variable {n : Nat} (hn : 21 ≤ n)
include hn

theorem countP_isLow : (List.range n).countP isLow = 9 :=
  countP_range_eq_card (s := Finset.range 9) fun x => by
    simp only [Finset.mem_range, isLow, Nat.ble_eq]
    omega

theorem countP_isHigh : (List.range n).countP (isHigh n) = 8 :=
  (countP_range_eq_card (s := Finset.Ico (n - 8) n) fun x => by
    simp only [Finset.mem_Ico, isHigh, Nat.ble_eq]
    omega).trans (by rw [Nat.card_Ico]; omega)

theorem countP_isMiddle : (List.range n).countP (isMiddle n) = n - 17 :=
  (countP_range_eq_card (s := Finset.Ico 9 (n - 8)) fun x => by
    simp only [Finset.mem_Ico, isMiddle, Bool.and_eq_true, Nat.ble_eq]
    omega).trans (by rw [Nat.card_Ico]; omega)

theorem countP_isLine : (List.range n).countP isLine = 1 :=
  countP_range_eq_card (s := {6}) fun x => by
    simp only [Finset.mem_singleton, isLine, beq_iff_eq]
    omega

theorem countP_isBeside : (List.range n).countP isBeside = 4 :=
  countP_range_eq_card (s := {4, 5, 7, 8}) fun x => by
    simp only [Finset.mem_insert, Finset.mem_singleton, isBeside, Bool.and_eq_true, bne_iff_ne, Nat.ble_eq]
    omega

theorem countP_isBlockLength : (List.range n).countP isBlockLength = 6 :=
  countP_range_eq_card (s := Finset.range 6) fun x => by
    simp only [Finset.mem_range, isBlockLength, Nat.ble_eq]
    omega

end

theorem countP_isBlockWidth (v : Nat) : (List.range (size v)).countP (isBlockWidth v) = if 7 ≤ v then 3 else 0 := by
  have hsize := size_ge v
  split
  · refine (countP_range_eq_card (s := Finset.Ico (size v - 11) (size v - 8)) fun x => ?_).trans (by rw [Nat.card_Ico]; omega)
    simp only [Finset.mem_Ico, isBlockWidth, Bool.and_eq_true, Nat.ble_eq]
    omega
  · refine countP_range_eq_card (s := ∅) fun x => ?_
    simp only [Finset.notMem_empty, false_iff, isBlockWidth, Bool.and_eq_true, Nat.ble_eq]
    omega

/-- Five rows to each alignment coordinate, by the table of coordinates. -/
theorem countP_near : ∀ v, versionOk v = true →
    (List.range (size v)).countP (nearOuter v) = 5 * ((align v).length - 1) ∧
      (List.range (size v)).countP (nearInner v) = 5 * ((align v).length - 2) :=
  of_every_version (by decide +kernel)

/-! ### Alignment patterns by row and column -/

theorem nearAlign_iff {v x : Nat} {kind : Nat → Bool} :
    nearAlign v kind x = true ↔ ∃ a ∈ align v, kind a = true ∧ dist x a ≤ 2 := by
  simp [nearAlign]

/-- A version with alignment patterns has some on the timing lines. -/
theorem six_mem_align : ∀ v, versionOk v = true → ∀ a ∈ align v, 6 ∈ align v :=
  of_every_version (by decide)

theorem nearInner_bounds {v x : Nat} (hv : versionOk v = true) (h : nearInner v x = true) : 20 ≤ x ∧ x + 21 ≤ size v := by
  obtain ⟨a, ha, hkind, hnear⟩ := nearAlign_iff.1 h
  obtain ⟨_, hplace⟩ := align_places v hv a ha
  simp only [Bool.and_eq_true, bne_iff_ne] at hkind
  unfold dist at hnear
  omega

theorem nearOuter_bounds {v x : Nat} (hv : versionOk v = true) (h : nearOuter v x = true) : 16 ≤ x ∧ x + 5 ≤ size v := by
  obtain ⟨a, ha, hkind, hnear⟩ := nearAlign_iff.1 h
  obtain ⟨_, hplace⟩ := align_places v hv a ha
  have hsize := size_ge_of_mem_align v hv a ha
  rw [bne_iff_ne] at hkind
  unfold dist at hnear
  omega

/-- Where alignment patterns lie, by row and column: off the timing lines, across row 6, across column 6. -/
theorem covers_iff_near {v r c : Nat} (hv : versionOk v = true) :
    (∃ a b, AlignCovers v r c a b) ↔ nearOuter v r = true ∧ nearOuter v c = true ∨
      (4 ≤ r ∧ r ≤ 8) ∧ nearInner v c = true ∨ nearInner v r = true ∧ (4 ≤ c ∧ c ≤ 8) := by
  have hsix {x : Nat} : dist x 6 ≤ 2 ↔ 4 ≤ x ∧ x ≤ 8 := by
    unfold dist
    omega
  have hlast {a : Nat} (ha : a ∈ align v) : a + 7 = size v ↔ a = size v - 7 := by
    have := size_ge_of_mem_align v hv a ha
    omega
  unfold nearOuter nearInner
  simp only [nearAlign_iff, Bool.and_eq_true, bne_iff_ne, ← hsix]
  constructor
  · rintro ⟨a, b, ha, hb, hkept, hra, hcb⟩
    simp only [List.mem_cons, Prod.mk.injEq, List.not_mem_nil, or_false, not_or] at hkept
    obtain ⟨hcorner, hright, hbottom⟩ := hkept
    by_cases ha6 : a = 6
    · subst ha6
      exact .inr (.inl ⟨hra, b, hb, ⟨fun h => hcorner ⟨rfl, h⟩, fun h => hright ⟨rfl, (hlast hb).1 h⟩⟩, hcb⟩)
    by_cases hb6 : b = 6
    · subst hb6
      exact .inr (.inr ⟨⟨a, ha, ⟨ha6, fun h => hbottom ⟨(hlast ha).1 h, rfl⟩⟩, hra⟩, hcb⟩)
    · exact .inl ⟨⟨a, ha, ha6, hra⟩, ⟨b, hb, hb6, hcb⟩⟩
  · rintro (⟨⟨a, ha, ha6, hra⟩, b, hb, hb6, hcb⟩ | ⟨hr6, b, hb, ⟨hb6, hblast⟩, hcb⟩ | ⟨⟨a, ha, ⟨ha6, halast⟩, hra⟩, hc6⟩)
    · exact ⟨a, b, ha, hb, by simp [ha6, hb6], hra, hcb⟩
    · have hblast := (hlast hb).not.1 hblast
      exact ⟨6, b, six_mem_align v hv b hb, hb, by simp [hb6, hblast], hr6, hcb⟩
    · have halast := (hlast ha).not.1 halast
      exact ⟨a, 6, ha, six_mem_align v hv a ha, by simp [ha6, halast], hra, hc6⟩

/-! ### The parts -/

/-- The function patterns' parts: the three corners, the timing lines between them, the blocks of version information, the
alignment patterns off the timing lines, and of those on the lines what lies beside the lines. -/
def functionAreas (v : Nat) : List Area :=
  [ ⟨isLow, isLow⟩, ⟨isLow, isHigh (size v)⟩, ⟨isHigh (size v), isLow⟩, ⟨isLine, isMiddle (size v)⟩,
    ⟨isMiddle (size v), isLine⟩, ⟨isBlockLength, isBlockWidth v⟩, ⟨isBlockWidth v, isBlockLength⟩,
    ⟨nearOuter v, nearOuter v⟩, ⟨isBeside, nearInner v⟩, ⟨nearInner v, isBeside⟩ ]

/-- Two different parts share no cell: already their bounds keep them apart. -/
theorem functionAreas_apart {v r c : Nat} (hv : versionOk v = true) :
    (functionAreas v).Pairwise fun A B => ¬(A.covers (r, c) = true ∧ B.covers (r, c) = true) := by
  have hsize := size_ge v
  have hlarge := size_ge_of_seven_le (v := v)
  have hinner (x : Nat) := (and_iff_left_of_imp (nearInner_bounds (x := x) hv)).symm
  have houter (x : Nat) := (and_iff_left_of_imp (nearOuter_bounds (x := x) hv)).symm
  simp only [functionAreas, List.pairwise_cons, List.forall_mem_cons, List.not_mem_nil, false_imp_iff, implies_true,
    List.Pairwise.nil, and_true, Area.covers, isLow, isHigh, isMiddle, isLine, isBeside, isBlockLength, isBlockWidth,
    Bool.and_eq_true, Nat.ble_eq, bne_iff_ne, beq_iff_eq]
  rw [hinner r, hinner c, houter r, houter c]
  constructorm* _ ∧ _ <;> omega

/-- The parts hold exactly the cells that are not free. -/
theorem functionAreas_any {v r c : Nat} (hv : versionOk v = true) (hr : r < size v) (hc : c < size v) :
    ((functionAreas v).any fun A => A.covers (r, c)) = !(funcCell v r c).isFree := by
  have hsize := size_ge v
  have hrowInner := nearInner_bounds (x := r) hv
  have hcolInner := nearInner_bounds (x := c) hv
  rw [Bool.eq_iff_iff, Bool.not_eq_true', ← Bool.not_eq_true, funcCell_isFree_iff hv hr hc]
  simp only [← not_exists, covers_iff_near hv]
  simp only [functionAreas, List.any_cons, List.any_nil, Bool.false_eq_true, or_false, Area.covers, isLow, isHigh, isMiddle,
    isLine, isBeside, isBlockLength, isBlockWidth, Bool.or_eq_true, Bool.and_eq_true, Nat.ble_eq, bne_iff_ne, beq_iff_eq]
  unfold inCorner inVersionBlock
  constructor
  · rintro (h | h | h | h | h | h | h | h | h | h) <;> grind
  · intro h
    by_contra hnone
    simp only [not_or] at hnone
    refine h ⟨by omega, by omega, by omega, by omega, ?_⟩
    grind

/-- The number of cells that are not free: three corners, two lines, two blocks, and the alignment patterns, of which those
on a timing line count without the five modules of the line. -/
def functionCells (v : Nat) : Nat :=
  9 * 9 + 2 * (9 * 8) + 2 * (size v - 17) + (if 7 ≤ v then 2 * 18 else 0) + (5 * ((align v).length - 1)) ^ 2
    + 2 * (4 * (5 * ((align v).length - 2)))

theorem functionAreas_cells {v : Nat} (hv : versionOk v = true) :
    ((functionAreas v).map (Area.cells (size v))).sum = functionCells v := by
  have hsize := size_ge v
  obtain ⟨houter, hinner⟩ := countP_near v hv
  simp only [functionAreas, List.map_cons, List.map_nil, List.sum_cons, List.sum_nil, Area.cells, countP_isLow hsize,
    countP_isHigh hsize, countP_isMiddle hsize, countP_isLine hsize, countP_isBeside hsize, countP_isBlockLength hsize,
    countP_isBlockWidth, houter, hinner, functionCells]
  split_ifs <;> ring

/-- The free cells of the whole region, by what the parts leave of it. -/
theorem countP_isFree {v : Nat} (hv : versionOk v = true) :
    (coordinates (size v)).countP (fun rc => (funcCell v rc.1 rc.2).isFree) + functionCells v = size v * size v := by
  have hparts : (coordinates (size v)).countP (fun rc => !(funcCell v rc.1 rc.2).isFree) = functionCells v := by
    rw [← functionAreas_cells hv, ← countP_any_covers _ fun rc _ => functionAreas_apart hv]
    refine List.countP_congr fun ⟨r, c⟩ hrc => ?_
    obtain ⟨hr, hc⟩ := mem_coordinates.1 hrc
    rw [functionAreas_any hv hr hc]
  have hall := (coordinates (size v)).length_eq_countP_add_countP fun rc => (funcCell v rc.1 rc.2).isFree
  simp only [length_coordinates, Bool.not_eq_true, Bool.decide_eq_false] at hall
  rw [hall, hparts]

/-- Region and stream, for every version and level (R211, R336). -/
theorem stream_and_functionCells : ∀ v, versionOk v = true → ∀ lv < 4, 1 ≤ v →
    8 * (cap lv v).totalCW + (cap lv v).rem + functionCells v = size v * size v :=
  of_every_version (by decide)

/-! ### The placement order (R343) -/

theorem mem_placementOrder {v r c : Nat} (hv : versionOk v = true) (hr : r < size v) (hc : c < size v) :
    (r, c) ∈ placementOrder v ↔ (funcCell v r c).isFree = true := by
  rw [placementOrder, List.mem_filter, mem_scan_size]
  refine and_iff_right_of_imp fun hfree => ⟨hr, hc, ?_⟩
  obtain ⟨_, _, hc6, _, _⟩ := (funcCell_isFree_iff hv hr hc).1 hfree
  exact hc6

theorem placementOrder_nodup (v : Nat) : (placementOrder v).Nodup := (scan_size_nodup v).filter _

/-- No free cell stands in column 6, so that the scan passes over all of them. -/
theorem length_placementOrder {v : Nat} (hv : versionOk v = true) :
    (placementOrder v).length = (coordinates (size v)).countP fun rc => (funcCell v rc.1 rc.2).isFree := by
  rw [List.countP_eq_length_filter]
  refine ((List.perm_ext_iff_of_nodup (placementOrder_nodup v) ((coordinates_nodup _).filter _)).2 fun ⟨r, c⟩ => ?_).length_eq
  rw [List.mem_filter, mem_coordinates]
  constructor
  · intro h
    obtain ⟨hr, hc⟩ := scan_size_bounds r c (List.mem_of_mem_filter h)
    exact ⟨⟨hr, hc⟩, (mem_placementOrder hv hr hc).1 h⟩
  · rintro ⟨⟨hr, hc⟩, hfree⟩
    exact (mem_placementOrder hv hr hc).2 hfree

/-- The stream has a bit for each position of the placement order and no more. -/
theorem length_placementOrder_eq_stream {lv v : Nat} (hlv : lv < 4) (hv : versionOk v = true) :
    (placementOrder v).length = 8 * (cap lv v).totalCW + (cap lv v).rem := by
  have hstream := stream_and_functionCells v hv lv hlv ((versionOk_iff v).1 hv).1
  have hfree := countP_isFree hv
  rw [length_placementOrder hv]
  omega

/-- Settles O54: the parts of the function patterns and the stream add up to the region, and the scan misses no free cell. -/
theorem freeCellsMatchTheStream : Obligations.FreeCellsMatchTheStream := by
  intro v hlo hhi
  have hv : versionOk v = true := (versionOk_iff v).2 ⟨hlo, hhi⟩
  refine ⟨fun lv hlv => ⟨length_placementOrder_eq_stream hlv hv, ?_⟩, placementOrder_nodup v,
    fun r c hr hc => mem_placementOrder hv hr hc⟩
  rw [funcGrid, Grid.count_tabulate, length_placementOrder hv]

end Sys2Proof.Machine
end

section
/-! SUPPORT. From MSG to BEST: which codeword stands where in the stream, and what ENCODE's stages make of it
(spec/41_reed_solomon.md R266, spec/42_placement.md R344). -/

namespace Sys2Proof.Machine

/-! ### The stream by block and index (R266) -/

/-- Group 2 blocks, where there are any, are one codeword longer (R258). -/
theorem cap_group2_longer : ∀ v, versionOk v = true → ∀ lv < 4,
    (cap lv v).g2Blocks = 0 ∨ (cap lv v).g2Data = (cap lv v).g1Data + 1 :=
  of_every_version (by decide)

/-- The data codewords of index `i`, block by block, exhausted blocks skipped. -/
def State.dataRow (s : State) (e : CapEntry) (i : Nat) : List Byte :=
  (List.range e.blocks).filterMap fun b =>
    if i < blockLen e b then some (s.mem.read (0x01000 + blockStart e b + i)) else none

/-- The place of data codeword `i` of block `b` in the stream. -/
def streamPlace (e : CapEntry) (b i : Nat) : Nat :=
  if i < e.g1Data then i * e.blocks + b else e.g1Data * e.blocks + (b - e.g1Blocks)

section
variable {e : CapEntry} (he : e.AddsUp) (hlonger : e.g2Blocks = 0 ∨ e.g2Data = e.g1Data + 1)
include he hlonger

/-- A row of an index that every block has. -/
theorem State.dataRow_of_lt (s : State) {i : Nat} (hi : i < e.g1Data) :
    s.dataRow e i = (List.range e.blocks).map fun b => s.mem.read (0x01000 + blockStart e b + i) := by
  rw [State.dataRow, ← List.filterMap_eq_map]
  refine List.filterMap_congr fun b hb => if_pos ?_
  have hblock := List.mem_range.1 hb
  have hblocks := he.blocks
  unfold blockLen
  split <;> omega

/-- The last row, of the index that only blocks of group 2 have. -/
theorem State.dataRow_last (s : State) (h2 : e.g2Blocks ≠ 0) :
    s.dataRow e e.g1Data = (List.range e.g2Blocks).map fun b =>
      s.mem.read (0x01000 + blockStart e (e.g1Blocks + b) + e.g1Data) := by
  rw [State.dataRow, he.blocks, List.range_add, List.filterMap_append, List.filterMap_map, ← List.filterMap_eq_map]
  have hgroup1 : ((List.range e.g1Blocks).filterMap fun b =>
      if e.g1Data < blockLen e b then some (s.mem.read (0x01000 + blockStart e b + e.g1Data)) else none) = [] := by
    refine List.filterMap_eq_nil_iff.2 fun b hb => if_neg ?_
    rw [blockLen, if_pos (List.mem_range.1 hb)]
    omega
  rw [hgroup1, List.nil_append]
  refine List.filterMap_congr fun b _ => if_pos ?_
  have hgroup2 : ¬e.g1Blocks + b < e.g1Blocks := by omega
  rw [blockLen, if_neg hgroup2]
  omega

theorem State.composedOut_getElem? (s : State) {b i : Nat} (hb : b < e.blocks) (hi : i < blockLen e b) :
    (s.composedOut e)[streamPlace e b i]? = some (s.mem.read (0x01000 + blockStart e b + i)) := by
  have hblocks := he.blocks
  have hwidth : ∀ i ∈ List.range e.g1Data, (s.dataRow e i).length = e.blocks := fun i hi => by
    rw [s.dataRow_of_lt he hlonger (List.mem_range.1 hi), List.length_map, List.length_range]
  have hlength := length_flatMap_of_length hwidth
  rw [List.length_range] at hlength
  have hout : s.composedOut e = (List.range e.g1Data).flatMap (s.dataRow e) ++
      ((List.range (max e.g1Data e.g2Data - e.g1Data)).flatMap fun i => s.dataRow e (e.g1Data + i)) ++
      (List.range e.ec).flatMap fun i => (List.range e.blocks).map fun b => s.mem.read (0x02000 + b * e.ec + i) := by
    have hmax : max e.g1Data e.g2Data = e.g1Data + (max e.g1Data e.g2Data - e.g1Data) := by omega
    conv_lhs => rw [State.composedOut, hmax, List.range_add, List.flatMap_append, List.flatMap_map]
    rfl
  rw [hout, List.append_assoc, streamPlace]
  split
  · next hlt =>
    rw [List.getElem?_append_left (hlength ▸ piece_index_lt hlt hb),
      getElem?_flatMap_of_length hwidth i hb, List.getElem?_range hlt, Option.bind_some, s.dataRow_of_lt he hlonger hlt,
      List.getElem?_map, List.getElem?_range hb, Option.map_some]
  · next hge =>
    have h1 : ¬b < e.g1Blocks := fun h => hge (by rwa [blockLen, if_pos h] at hi)
    have h2 : e.g2Data = e.g1Data + 1 := hlonger.resolve_left (by omega)
    have hlast : i = e.g1Data := by
      rw [blockLen, if_neg h1] at hi
      omega
    have hrow : max e.g1Data e.g2Data - e.g1Data = 1 := by omega
    rw [List.getElem?_append_right (by omega), hlength, Nat.add_sub_cancel_left, hrow, List.range_one, List.flatMap_singleton,
      Nat.add_zero, s.dataRow_last he hlonger (by omega), List.getElem?_append_left (by simp; omega), List.getElem?_map,
      List.getElem?_range (by omega), Option.map_some, hlast,
      Nat.add_sub_cancel' (by omega)]

end

/-! ### ENCODE's stages -/

/-- The choice among candidates ends at one of them. -/
theorem selectBest_mem (first : Scored) (rest : List Scored) : selectBest first rest ∈ first :: rest := by
  induction rest generalizing first with
  | nil => exact List.mem_singleton.2 rfl
  | cons x rest ih =>
    have hmem : selectBest first (x :: rest) ∈ better first x :: rest := ih (better first x)
    rcases List.mem_cons.1 hmem with hbetter | hrest
    · rw [hbetter, better]
      split <;> simp
    · exact List.mem_cons_of_mem _ (List.mem_cons_of_mem _ hrest)

theorem bestMaskOf_mask_lt (n lv : Nat) (g : Grid) : (bestMaskOf n lv g).mask < 8 := by
  have hmem := selectBest_mem (scoredCandidate n lv g 0) ([1, 2, 3, 4, 5, 6, 7].map (scoredCandidate n lv g))
  have hmask : ∀ x ∈ [0, 1, 2, 3, 4, 5, 6, 7].map (scoredCandidate n lv g), x.mask < 8 := by
    simp [scoredCandidate]
  exact hmask _ hmem

/-- A stage past its version check that succeeds is the rest of its rule. -/
theorem checkVersion_eq_done {p : Pend} {s t : State} {k : CmdResult} (h : checkVersion p s k = .done t) : k = .done t := by
  rcases checkVersion_cases p s k with ⟨_, hk⟩ | ⟨_, hk⟩
  · exact hk.symm.trans h
  · cases hk.symm.trans h

theorem placeOn_eq_done {v l : Nat} {g : Grid} {s t : State} (h : placeOn v l g s = .done t) : t = placeEffect v l g s := by
  unfold placeOn at h
  split_ifs at h
  exact (CmdResult.done.inj h).symm

/-- The state MASK_SELECT leaves: a candidate of one of the eight masks in BEST, its mask in BEST_MASK. -/
theorem bodyMaskSelect_eq_done {p : Pend} {s t : State} (h : bodyMaskSelect p s = .done t) :
    ∃ m < 8, t.bestMask = BitVec.ofNat 3 m ∧
      t.mem = (s.writeGrid .best (candidate (size p.v) p.lv m (s.readGrid .grid p.v))).mem := by
  have hselect := checkVersion_eq_done h
  refine ⟨(bestMaskOf (size p.v) p.lv (s.readGrid .grid p.v)).mask, bestMaskOf_mask_lt _ _ _, ?_⟩
  rcases checkCandidate_cases _ _ _ _ with ⟨_, hk⟩ | ⟨_, _, hk⟩ | ⟨_, _, hk⟩
  · cases hk.symm.trans hselect
  · cases hk.symm.trans hselect
    exact ⟨rfl, rfl⟩
  · cases hk.symm.trans hselect

/-- GRID and CW before ENCODE's PLACE_DATA: the stream of MSG, and the function patterns. -/
def encodeFramed (p : Pend) (s : State) : State :=
  ((interleaveEffect (cap p.lv p.v) (rsEncodeEffect (cap p.lv p.v) s)).writeGrid .grid (funcGrid p.v)).setOutValid false

/-- The region of GRID that ENCODE's PLACE_DATA leaves. -/
def encodePlaced (p : Pend) (s : State) : Grid :=
  placeBits (scan (size p.v)) ((encodeFramed p s).streamBits (8 * (cap p.lv p.v).totalCW + (cap p.lv p.v).rem))
    (funcGrid p.v)

theorem readGrid_encodeFramed (p : Pend) (s : State) : (encodeFramed p s).readGrid .grid p.v = funcGrid p.v :=
  State.readGrid_writeGrid_same _ .grid (funcGrid_square p.v)

theorem encodePlaced_square (p : Pend) (s : State) : (encodePlaced p s).Square (size p.v) :=
  placeBits_square _ _ (funcGrid_square p.v)

/-- What a successful ENCODE leaves: a candidate of the placed region in BEST, and its mask in BEST_MASK (R441). -/
theorem bodyEncode_commits {p : Pend} {s t : State} (hv : versionOk p.v = true) (h : bodyEncode p s = .done t) :
    ∃ m < 8, t.bestMask = BitVec.ofNat 3 m ∧ ∀ r c, r < size p.v → c < size p.v →
      t.bestCell p.v r c = candidateCell (size p.v) p.lv m (encodePlaced p s) r c := by
  rw [bodyEncode, checkVersion_ok hv] at h
  obtain ⟨t4, hplaced, hselect⟩ := CmdResult.andThen_eq_done h
  obtain ⟨t3, hframed, hplace⟩ := CmdResult.andThen_eq_done hplaced
  obtain rfl : encodeFramed p s = t3 := by
    rw [bodyRsEncode, checkVersion_ok hv, CmdResult.andThen_done, bodyInterleave, checkVersion_ok hv,
      CmdResult.andThen_done, bodyBuildFunc, checkVersion_ok hv] at hframed
    exact CmdResult.done.inj hframed
  have hlength : (encodeFramed p s).cwBits.toNat = 8 * (cap p.lv p.v).totalCW + (cap p.lv p.v).rem :=
    Pend.toNat_onStream_cwBits hv
  have hregion : t4.readGrid .grid p.v = encodePlaced p s := by
    rw [placeOn_eq_done (checkVersion_eq_done hplace), encodePlaced, ← hlength, ← readGrid_encodeFramed p s]
    refine State.readGrid_writeGrid_same _ .grid (placeBits_square _ _ ?_)
    exact State.readGrid_square _ .grid p.v
  obtain ⟨m, hm, hmask, hmem⟩ := bodyMaskSelect_eq_done hselect
  refine ⟨m, hm, hmask, fun r c hr hc => ?_⟩
  have hcell := State.read_writeGrid (candidate_square (size p.v) p.lv m (encodePlaced p s)) t4 .best hr hc
  rw [State.bestCell, bestAddr, hmem, hregion, Nat.add_assoc]
  refine (congrArg Cell.ofByte hcell).trans ?_
  rw [Cell.ofByte_toByte, candidate, Grid.get_tabulate _ hr hc]

/-! ### The message's bits (R344) -/

/-- A block lies within MSG's data codewords (R258). -/
theorem block_end_le {e : CapEntry} (he : e.AddsUp) {b : Nat} (hb : b < e.blocks) :
    blockStart e b + blockLen e b ≤ e.dataCW := by
  have hblocks := he.blocks
  have hdata := he.dataCW
  unfold blockStart blockLen
  split
  · next h =>
    have := piece_end_le (w := e.g1Data) h
    omega
  · next h =>
    have := piece_end_le (w := e.g2Data) (show b - e.g1Blocks < e.g2Blocks by omega)
    omega

/-- After ENCODE's INTERLEAVE each data codeword of MSG stands at its place in CW. -/
theorem read_encodeFramed_stream {p : Pend} (hv : versionOk p.v = true) (s : State) {b i : Nat}
    (hb : b < (cap p.lv p.v).blocks) (hi : i < blockLen (cap p.lv p.v) b) :
    streamPlace (cap p.lv p.v) b i < (cap p.lv p.v).totalCW ∧
      (encodeFramed p s).mem.read (0x03000 + streamPlace (cap p.lv p.v) b i) =
        s.mem.read (0x01000 + blockStart (cap p.lv p.v) b + i) := by
  have he : (cap p.lv p.v).AddsUp := Pend.cap_addsUp (Pend.versionOk_iff_inRange.1 hv)
  obtain ⟨_, hdata, _, _, _, htotal⟩ := cap_geometry_le p.v hv p.lv p.lv_lt
  have hlonger := cap_group2_longer p.v hv p.lv p.lv_lt
  have hcompose := composeStream_eq (rsEncodeEffect (cap p.lv p.v) s) he
  have hblock := block_end_le he hb
  generalize hcap : cap p.lv p.v = e at *
  let t1 := rsEncodeEffect e s
  have hout := t1.composedOut_getElem? he hlonger hb hi
  have hplace : streamPlace e b i < e.totalCW := by
    obtain ⟨hlt, _⟩ := List.getElem?_eq_some_iff.1 hout
    rwa [t1.length_composedOut he] at hlt
  refine ⟨hplace, ?_⟩
  have hstored := t1.getElem?_eq_read_writeBuf .cw 0 (bs := t1.composedBytes e) (i := streamPlace e b i)
    (by rw [t1.length_composedBytes he]; omega)
  rw [t1.getElem?_composedBytes he hplace, hout, Option.some_inj] at hstored
  have hmsg : t1.mem.read (0x01000 + blockStart e b + i) = s.mem.read (0x01000 + blockStart e b + i) :=
    Memory.read_writeRange_outside (.inl (show _ < 0x02000 by omega))
  have hgrid : (encodeFramed p s).mem.read (0x03000 + streamPlace e b i) =
      (interleaveEffect e t1).mem.read (0x03000 + streamPlace e b i) := by
    rw [encodeFramed, hcap]
    exact State.read_writeGrid_outside (funcGrid_square p.v) _ .grid (.inl (show _ < 0x08000 by omega))
  rw [hgrid, ← hmsg, hstored, interleaveEffect, hcompose]
  rfl

/-- A free cell of the function patterns carries no format bit. -/
theorem formatBitAt_placementOrder {v r c : Nat} (h : (r, c) ∈ placementOrder v) : formatBitAt (size v) r c = none :=
  (funcCell_isFree_iff_uncovered.1 (List.mem_filter.1 h).2).format

/-- The free cells of the function patterns on the scan's way are the placement order. -/
theorem freeIn_funcGrid (v : Nat) : (funcGrid v).freeIn (scan (size v)) = placementOrder v := by
  refine List.filter_congr fun ⟨r, c⟩ hrc => ?_
  obtain ⟨hr, hc⟩ := scan_size_bounds r c hrc
  rw [funcGrid, Grid.get_tabulate _ hr hc]

theorem State.streamBit_eq (s : State) (k : Nat) {j : Nat} (hj : j < 8) :
    s.streamBit (8 * k + j) = (s.mem.read (0x03000 + k)).getLsbD (7 - j) := by
  rw [State.streamBit, show (8 * k + j) / 8 = k by omega, show (8 * k + j) % 8 = j by omega]

/-- A completion without ERR is a success of the command's rule. -/
theorem exec_done_of_ok {i : Instr} {s t : State} {p : Pend} (hp : s.pend = some p) (h : exec i s = .next t)
    (hok : t.status.err = false) : ∃ u, bodyOf i p s = .done u ∧ t = u.completeOk := by
  rw [exec_pending hp] at h
  cases h
  cases hbody : bodyOf i p s with
  | done u => exact ⟨u, rfl, rfl⟩
  | failed e u =>
    rw [hbody] at hok
    cases hok

/-- Settles O40: the cell at a placement position takes the stream's bit, and the stream's codewords are those of MSG. -/
theorem encodedSymbolCarriesTheMessage : Obligations.EncodedSymbolCarriesTheMessage := by
  intro s t p hp hrange _ hexec hok v e b i j hb hi hj k
  have hv : versionOk v = true := Pend.versionOk_iff_inRange.2 hrange
  obtain ⟨u, hbody, rfl⟩ := exec_done_of_ok hp hexec hok
  obtain ⟨m, hm, hmask, hbest⟩ := bodyEncode_commits hv hbody
  obtain ⟨hplace, hcodeword⟩ : k < e.totalCW ∧
      (encodeFramed p s).mem.read (0x03000 + k) = s.mem.read (0x01000 + blockStart e b + i) :=
    read_encodeFramed_stream hv s hb hi
  have hlength : (placementOrder v).length = 8 * e.totalCW + e.rem := length_placementOrder_eq_stream p.lv_lt hv
  obtain ⟨⟨r, c⟩, hcell⟩ : ∃ rc, (placementOrder v)[8 * k + j]? = some rc :=
    ⟨_, List.getElem?_eq_getElem (show 8 * k + j < (placementOrder v).length by omega)⟩
  have hmem := List.mem_of_getElem? hcell
  obtain ⟨hr, hc⟩ := scan_size_bounds r c (List.mem_of_mem_filter hmem)
  refine ⟨r, c, hcell, ?_⟩
  have hplaced : (encodePlaced p s).get r c = .data ((encodeFramed p s).streamBit (8 * k + j)) :=
    placeBits_get_of_free scan_size_bounds (scan_size_nodup v) (funcGrid_square v) (freeIn_funcGrid v ▸ hcell)
      (State.streamBits_getElem? _ (show _ < 8 * e.totalCW + e.rem by omega))
  have hbit : (encodeFramed p s).streamBit (8 * k + j) =
      (s.mem.read (0x01000 + blockStart e b + i)).getLsbD (7 - j) := by
    rw [State.streamBit_eq _ k hj, hcodeword]
  have hmaskNat : u.bestMask.toNat = m := by
    rw [hmask, BitVec.toNat_ofNat, Nat.mod_eq_of_lt hm]
  calc u.completeOk.bestCell v r c = u.bestCell v r c := rfl
    _ = candidateCell (size v) p.lv m (encodePlaced p s) r c := hbest r c hr hc
    _ = ((encodePlaced p s).get r c).masked (maskHolds m r c) := by
      rw [candidateCell, formatBitAt_placementOrder hmem]
    _ = .data ((s.mem.read (0x01000 + blockStart e b + i)).getLsbD (7 - j) != maskHolds m r c) := by
      rw [hplaced, hbit, Cell.masked, Bool.bne_eq_xor]
    _ = _ := by rw [State.completeOk_bestMask, hmaskNat]

end Sys2Proof.Machine
end

section
/-! SUPPORT. Candidates by coordinate: what a candidate holds at the format cells and elsewhere, when it is complete, and
what MASK_SELECT chooses among the eight (spec/43_mask.md R385, R387, R400, R410, R412). -/

namespace Sys2Proof.Machine

/-! ### The cells of a candidate -/

theorem candidate_get {n r c : Nat} (hr : r < n) (hc : c < n) (lv m : Nat) (g : Grid) :
    (candidate n lv m g).get r c = candidateCell n lv m g r c := Grid.get_tabulate _ hr hc

theorem candidateCell_format {n r c i : Nat} (h : formatBitAt n r c = some i) (lv m : Nat) (g : Grid) :
    candidateCell n lv m g r c = .func (natBit (formatInfo lv m) i) := by
  rw [candidateCell, h]

theorem candidateCell_other {n r c : Nat} (h : formatBitAt n r c = none) (lv m : Nat) (g : Grid) :
    candidateCell n lv m g r c = (g.get r c).masked (maskHolds m r c) := by
  rw [candidateCell, h]

/-- A candidate carries the format bits of its own level and mask (R385). -/
theorem formatWritten_candidate (n lv m : Nat) (g : Grid) : formatWritten n lv m (candidate n lv m g) := by
  intro r c i hr hc hi
  rw [candidate_get hr hc, candidateCell_format hi]

@[simp] theorem Cell.isComplete_masked (x : Cell) (holds : Bool) : (x.masked holds).isComplete = x.isComplete := by
  cases x <;> rfl

theorem Cell.isComplete_eq_false_iff {x : Cell} (h : x.isInvalid = false) :
    x.isComplete = false ↔ x = .unfilled ∨ x = .reserved := by
  cases x with
  | invalid b => cases h
  | _ => simp [Cell.isComplete]

theorem Cell.isInvalid_of_isComplete {x : Cell} (h : x.isComplete = true) : x.isInvalid = false := by
  cases x with
  | invalid b => cases h
  | _ => rfl

/-- A candidate is complete exactly where GRID's cells outside the format cells are (R385, R387). -/
theorem candidate_complete_iff (n lv m : Nat) (g : Grid) : (candidate n lv m g).complete = true ↔
    ∀ r c, r < n → c < n → formatBitAt n r c = none → (g.get r c).isComplete = true := by
  rw [Grid.complete_iff (candidate_square n lv m g)]
  refine forall₄_congr fun r c hr hc => ?_
  rw [candidate_get hr hc]
  cases hbit : formatBitAt n r c with
  | none => simp [candidateCell_other hbit]
  | some i => simp [candidateCell_format hbit, Cell.isComplete]

/-- Masks differ in no candidate's completeness (R401). -/
theorem candidate_complete_congr (n lv m k : Nat) (g : Grid) :
    (candidate n lv m g).complete = (candidate n lv k g).complete := by
  rw [Bool.eq_iff_iff, candidate_complete_iff, candidate_complete_iff]

/-- A complete region has no invalid code. -/
theorem Grid.anyCell_isInvalid_of_complete {g : Grid} {n : Nat} (hg : g.Square n) (h : g.complete = true) :
    g.anyCell Cell.isInvalid = false := by
  refine eq_false_of_ne_true fun hany => ?_
  obtain ⟨r, c, hr, hc, hcell⟩ := (Grid.anyCell_iff hg _).1 hany
  rw [Cell.isInvalid_of_isComplete ((Grid.complete_iff hg).1 h r c hr hc)] at hcell
  cases hcell

/-- The candidate's cells, as the statements put them by address. -/
theorem State.candidateCell_readGrid (s : State) {v r c : Nat} (hr : r < size v) (hc : c < size v) (lv m : Nat) :
    candidateCell (size v) lv m (s.readGrid .grid v) r c = s.candidateAt v lv m r c := by
  cases hbit : formatBitAt (size v) r c with
  | some i => simp only [candidateCell_format hbit, State.candidateAt, hbit, natBit_eq_testBit]
  | none =>
    simp only [candidateCell_other hbit, State.candidateAt, hbit, s.get_readGrid hr hc]
    cases s.gridCell v r c <;> simp [Cell.masked, Bool.bne_eq_xor]

theorem State.get_candidate (s : State) {v r c : Nat} (hr : r < size v) (hc : c < size v) (lv m : Nat) :
    (candidate (size v) lv m (s.readGrid .grid v)).get r c = s.candidateAt v lv m r c := by
  rw [candidate_get hr hc, s.candidateCell_readGrid hr hc]

theorem State.candidate_readGrid (s : State) (v lv m : Nat) :
    candidate (size v) lv m (s.readGrid .grid v) = Grid.tabulate (size v) (s.candidateAt v lv m) :=
  Grid.ext_get (candidate_square _ _ _ _) (Grid.tabulate_square _ _) fun r c hr hc => by
    rw [s.get_candidate hr hc, Grid.get_tabulate _ hr hc]

theorem State.score_scoredCandidate (s : State) (v lv m : Nat) :
    (scoredCandidate (size v) lv (s.readGrid .grid v) m).score = s.candidateScore v lv m := by
  rw [scoredCandidate, s.candidate_readGrid, Grid.values_tabulate]
  rfl

theorem State.candidate_complete_iff_cells (s : State) (v lv m : Nat) :
    (candidate (size v) lv m (s.readGrid .grid v)).complete = true ↔
      ∀ r c, r < size v → c < size v → (s.candidateAt v lv m r c).isComplete = true := by
  rw [Grid.complete_iff (candidate_square _ _ _ _)]
  refine forall₄_congr fun r c hr hc => ?_
  rw [s.get_candidate hr hc]

/-- Settles O55: a cell outside the format cells is complete with or without its mask. -/
theorem completenessIsTheSameForEveryMask : Obligations.CompletenessIsTheSameForEveryMask := by
  intro s v lv m hvalid g
  constructor
  · rw [← Bool.not_eq_true, candidate_complete_iff]
    push Not
    refine exists₂_congr fun r c => and_congr_right fun hr => and_congr_right fun hc => and_congr_right fun _ => ?_
    rw [s.get_readGrid hr hc, ne_eq, Bool.not_eq_true, Cell.isComplete_eq_false_iff (hvalid r c hr hc)]
  · intro r c b hr hc hbit hcell
    rw [candidate_get hr hc, candidateCell_other hbit, s.get_readGrid hr hc, hcell, Cell.masked, Bool.bne_eq_xor]

/-! ### The choice among the candidates (R412) -/

theorem better_cases (x y : Scored) :
    (y.score.total < x.score.total ∧ better x y = y) ∨ (x.score.total ≤ y.score.total ∧ better x y = x) := by
  by_cases h : y.score.total < x.score.total
  · exact .inl ⟨h, if_pos h⟩
  · exact .inr ⟨Nat.not_lt.1 h, if_neg h⟩

/-- Of candidates in rising order of their masks, the choice has the least total, and every one before it a larger one. -/
theorem selectBest_least {first : Scored} {rest : List Scored}
    (hsorted : (first :: rest).Pairwise fun x y => x.mask < y.mask) : ∀ x ∈ first :: rest,
      (selectBest first rest).score.total ≤ x.score.total ∧
        (x.mask < (selectBest first rest).mask → (selectBest first rest).score.total < x.score.total) := by
  induction rest generalizing first with
  | nil => simp [selectBest]
  | cons y rest ih =>
    have hnext : selectBest first (y :: rest) = selectBest (better first y) rest := rfl
    intro x hx
    rcases better_cases first y with ⟨hlt, hbetter⟩ | ⟨hle, hbetter⟩ <;> rw [hnext, hbetter]
    · have hleast := ih (List.pairwise_cons.1 hsorted).2
      rcases List.mem_cons.1 hx with rfl | hx
      · have hy := (hleast y List.mem_cons_self).1
        exact ⟨by omega, fun _ => by omega⟩
      · exact hleast x hx
    · have hleast := ih (hsorted.sublist (.cons_cons first (List.sublist_cons_self y rest)))
      obtain ⟨hfirst, hstrict⟩ := hleast first List.mem_cons_self
      rcases List.mem_cons.1 hx with rfl | hx
      · exact ⟨hfirst, hstrict⟩
      · rcases List.mem_cons.1 hx with rfl | hx
        · have horder := (List.pairwise_cons.1 hsorted).1 x List.mem_cons_self
          exact ⟨hfirst.trans hle, fun h => (hstrict (horder.trans h)).trans_le hle⟩
        · exact hleast x (List.mem_cons_of_mem _ hx)

/-- The eight candidates in the order of MASK_SELECT's scan (R410). -/
def candidatesInOrder (n lv : Nat) (g : Grid) : List Scored := (List.range 8).map (scoredCandidate n lv g)

theorem bestMaskOf_mem (n lv : Nat) (g : Grid) : bestMaskOf n lv g ∈ candidatesInOrder n lv g :=
  selectBest_mem _ _

/-- MASK_SELECT's choice is the score of the candidate whose mask it names. -/
theorem scoredCandidate_bestMaskOf (n lv : Nat) (g : Grid) :
    scoredCandidate n lv g (bestMaskOf n lv g).mask = bestMaskOf n lv g := by
  obtain ⟨m, _, hm⟩ := List.mem_map.1 (bestMaskOf_mem n lv g)
  rw [← hm]
  rfl

theorem bestMaskOf_least (n lv : Nat) (g : Grid) {k : Nat} (hk : k < 8) :
    (bestMaskOf n lv g).score.total ≤ (scoredCandidate n lv g k).score.total ∧
      (k < (bestMaskOf n lv g).mask → (bestMaskOf n lv g).score.total < (scoredCandidate n lv g k).score.total) := by
  have hsorted : (candidatesInOrder n lv g).Pairwise fun x y => x.mask < y.mask :=
    List.pairwise_map.2 List.pairwise_lt_range
  exact selectBest_least hsorted _ (List.mem_map_of_mem (List.mem_range.2 hk))

end Sys2Proof.Machine
end

section
/-! SUPPORT. The committed matrix: what a successful commit leaves in the block, and that every step keeps it while
OUT_VALID is 1 (spec/43_mask.md R402, R404, R410, spec/10_state.md R79). -/

namespace Sys2Proof.Machine

/-! ### What a commit leaves -/

/-- What the rule of MASK_APPLY or MASK_SELECT leaves where it succeeds: in BEST a complete candidate of level `lv` that
carries the mask in BEST_MASK, in the PEN registers its score. -/
structure Committed (v lv : Nat) (t : State) : Prop where
  version : versionOk v = true
  complete : (t.readGrid .best v).complete = true
  format : formatWritten (size v) lv t.bestMask.toNat (t.readGrid .best v)
  pen : t.pen = (score (size v) (t.readGrid .best v).values).registers
  outValid : t.status.outValid = true

/-- Committing a complete candidate with its own score. -/
theorem Committed.commit {v m : Nat} (hv : versionOk v = true) (hm : m < 8) (lv : Nat) (g : Grid) (s : State)
    (hcomplete : (candidate (size v) lv m g).complete = true) :
    Committed v lv (s.commit (candidate (size v) lv m g) (scoredCandidate (size v) lv g m)) := by
  have hbest : (s.commit (candidate (size v) lv m g) (scoredCandidate (size v) lv g m)).readGrid .best v =
      candidate (size v) lv m g := State.readGrid_writeGrid_same s .best (candidate_square _ _ _ _)
  have hmask : (BitVec.ofNat 3 m).toNat = m := by rw [BitVec.toNat_ofNat, Nat.mod_eq_of_lt hm]
  refine ⟨hv, ?complete, ?format, ?pen, rfl⟩ <;> rw [hbest]
  case complete => exact hcomplete
  case format => exact hmask.symm ▸ formatWritten_candidate (size v) lv m g
  case pen => rfl

theorem versionOk_of_checkVersion_done {p : Pend} {s t : State} {k : CmdResult} (h : checkVersion p s k = .done t) :
    versionOk p.v = true := by
  rcases checkVersion_cases p s k with ⟨hv, _⟩ | ⟨_, hk⟩
  · exact hv
  · cases hk.symm.trans h

/-- The candidate check lets only a complete candidate pass. -/
theorem checkCandidate_eq_done {g h : Grid} {s t : State} {k : CmdResult} (hdone : checkCandidate g h s k = .done t) :
    h.complete = true ∧ k = .done t := by
  rcases checkCandidate_cases g h s k with ⟨_, hk⟩ | ⟨_, hcomplete, hk⟩ | ⟨_, _, hk⟩
  · cases hk.symm.trans hdone
  · exact ⟨hcomplete, hk.symm.trans hdone⟩
  · cases hk.symm.trans hdone

theorem applyOn_committed {v lv m : Nat} {g : Grid} {s t : State} (hv : versionOk v = true) (hm : m < 8)
    (h : applyOn (size v) lv m g s = .done t) : Committed v lv t := by
  obtain ⟨hcomplete, ht⟩ := checkCandidate_eq_done h
  cases ht
  exact .commit hv hm lv g s hcomplete

theorem selectOn_committed {v lv : Nat} {g : Grid} {s t : State} (hv : versionOk v = true)
    (h : selectOn (size v) lv g s = .done t) : Committed v lv t := by
  obtain ⟨hcomplete, ht⟩ := checkCandidate_eq_done h
  cases ht
  rw [candidate_complete_congr _ _ _ (bestMaskOf (size v) lv g).mask] at hcomplete
  have hcommit := Committed.commit hv (bestMaskOf_mask_lt (size v) lv g) lv g s hcomplete
  rw [scoredCandidate_bestMaskOf] at hcommit
  exact { hcommit with }

/-- Every commit that succeeds leaves a committed matrix of the latched version and level; ENCODE's is MASK_SELECT's. -/
theorem bodyOf_committed {i : Instr} {p : Pend} {s t : State} (hi : commits i = true) (h : bodyOf i p s = .done t) :
    Committed p.v p.lv t := by
  have select {u : State} (h : bodyOf .maskSelect p u = .done t) : Committed p.v p.lv t :=
    selectOn_committed (versionOk_of_checkVersion_done h) (checkVersion_eq_done h)
  cases i with
  | maskApply => exact applyOn_committed (versionOk_of_checkVersion_done h) p.mask_lt (checkVersion_eq_done h)
  | maskSelect => exact select h
  | encode => exact (bodyEncode_eq_done h).elim fun _ => select
  | _ => cases hi

theorem Committed.outputInv {v lv : Nat} {t : State} (h : Committed v lv t) (hlv : lv < 4) : t.OutputInv :=
  fun _ => ⟨v, lv, h.version, hlv, h.complete, h.format⟩

/-! ### What keeps the committed matrix -/

theorem State.OutputInv.of_invalid {t : State} (h : t.status.outValid = false) : t.OutputInv := by
  intro hvalid
  rw [h] at hvalid
  cases hvalid

/-- The window of BEST reads the same in both states. -/
abbrev SameBest (s t : State) : Prop := ∀ a, 0x10000 ≤ a → t.mem.read a = s.mem.read a

theorem SameBest.readGrid {s t : State} (h : SameBest s t) (v : Nat) : t.readGrid .best v = s.readGrid .best v := by
  refine SameBytes.readGrid (A := (0x10000 ≤ ·)) (fun a ha => h a (of_decide_eq_true ha)) fun a ha => ?_
  exact decide_eq_true (Buf.within_iff.1 ha).1

/-- A change that leaves BEST and BEST_MASK and raises no OUT_VALID keeps the invariant. -/
theorem State.OutputInv.of_same {s t : State} (hs : s.OutputInv)
    (hvalid : t.status.outValid = true → s.status.outValid = true) (hmask : t.bestMask = s.bestMask)
    (hbest : SameBest s t) : t.OutputInv := by
  intro ht
  simp only [hmask, hbest.readGrid]
  exact hs (hvalid ht)

theorem State.OutputInv.complete {r : CmdResult} (h : r.state.OutputInv) : r.complete.OutputInv := by
  cases r <;> exact h

/-! ### Commands -/

theorem CommandResult.outValid_of_not_commits {p : Pend} {s : State} {i : Instr} {r : CmdResult}
    (h : CommandResult p s i r) (hi : commits i = false) :
    r.state.status.outValid = true → s.status.outValid = true := by
  cases h with
  | maskApply | maskSelect => cases hi
  | buildFunc | placeData => nofun
  | _ => exact id

/-- A store within the window of another buffer leaves BEST. -/
theorem State.sameBest_writeBuf (s : State) {b : Buf} (hb : b ≠ .best) {off : Nat} {bs : List Byte}
    (hfit : off + bs.length ≤ b.size) : SameBest s (s.writeBuf b off bs) := by
  intro a ha
  have hend : b.base + b.size ≤ 0x10000 := by
    cases b with
    | best => exact absurd rfl hb
    | _ => decide
  exact Memory.read_writeRange_outside (.inr (by omega))

theorem State.sameBest_writeGrid (s : State) {v : Nat} (hv : versionOk v = true) {g : Grid} (hg : g.Square (size v)) :
    SameBest s (s.writeGrid .grid g) := by
  refine s.sameBest_writeBuf (b := .grid) (by decide) ?_
  rw [Nat.zero_add, Grid.length_toBytes hg]
  exact size_sq_le hv

/-- Only a commit writes BEST. -/
theorem CommandResult.sameBest {p : Pend} {s : State} {i : Instr} {r : CmdResult} (h : CommandResult p s i r)
    (hi : commits i = false) : SameBest s r.state := by
  cases h with
  | failed | nop | results | maskScore => exact fun _ _ => rfl
  | maskApply | maskSelect => cases hi
  | rsBlock hargs =>
    obtain ⟨_, _, _, hdst⟩ := blockArgsOk_iff.1 hargs
    exact s.sameBest_writeBuf (b := .ecc) (by decide) (by rw [length_rsRem]; exact hdst)
  | rsEncode hv =>
    obtain ⟨hecc, _⟩ := cap_fits p.lv_lt hv
    exact s.sameBest_writeBuf (b := .ecc) (by decide) (by rw [length_encodeBlocks, Nat.zero_add]; exact hecc)
  | interleave hv =>
    obtain ⟨_, hstream⟩ := cap_fits p.lv_lt hv
    exact s.sameBest_writeBuf (b := .cw) (by decide)
      (by rw [Nat.zero_add]; exact (length_composeStream_le _ _ _).trans hstream)
  | buildFunc hv => exact s.sameBest_writeGrid hv (funcGrid_square p.v)
  | placeData hv => exact s.sameBest_writeGrid hv (placeBits_square _ _ (s.readGrid_square .grid p.v))

theorem bodyOf_keeps_outputInv_of_ne_encode {i : Instr} (hi : i ≠ .encode) (p : Pend) {s : State} (hs : s.OutputInv) :
    (bodyOf i p s).state.OutputInv := by
  have hresult := bodyOf_result hi p s
  cases hcommits : commits i with
  | false =>
    exact hs.of_same (hresult.outValid_of_not_commits hcommits) (hresult.frame.bestMask hcommits)
      (hresult.sameBest hcommits)
  | true =>
    cases hr : bodyOf i p s with
    | done t => exact (bodyOf_committed hcommits hr).outputInv p.lv_lt
    | failed e t =>
      rw [hr] at hresult
      cases hresult
      exact hs

/-- Every command keeps the invariant, ENCODE at each of its stages, a failing one included. -/
theorem bodyOf_keeps_outputInv (i : Instr) (p : Pend) {s : State} (hs : s.OutputInv) :
    (bodyOf i p s).state.OutputInv := by
  by_cases hi : i = .encode
  · subst hi
    refine bodyEncode_keeps_of_stages hs fun i hi c u hu => bodyOf_keeps_outputInv_of_ne_encode ?_ _ hu
    rintro rfl
    exact absurd hi (by decide)
  · exact bodyOf_keeps_outputInv_of_ne_encode hi p hs

theorem exec_keeps_outputInv {i : Instr} {s t : State} (h : exec i s = .next t) (hs : s.OutputInv) : t.OutputInv := by
  obtain ⟨p, _, rfl⟩ := exec_next h
  exact (bodyOf_keeps_outputInv i p hs).complete

/-! ### The host -/

theorem State.OutputInv.hostRead {s : State} (hs : s.OutputInv) (a : Addr) : (s.hostRead a).OutputInv :=
  hs.of_same (fun h => (s.hostRead_outValid a).symm.trans h)
    (by rcases s.afterRead_cases a with h | h <;> simp [State.hostRead, h]) fun _ _ => by rw [State.hostRead_mem]

/-- Of the register writes, a soft reset clears OUT_VALID and the others leave it and BEST_MASK. -/
theorem State.OutputInv.writeReg {s : State} (hs : s.OutputInv) (d : Word) (r : Reg) : (s.writeReg d r).OutputInv := by
  cases r with
  | ctrl =>
    rcases s.writeCtrl_cases d with ⟨_, h⟩ | ⟨_, h⟩ <;> rw [State.writeReg, h]
    · exact .of_invalid rfl
    · exact hs
  | cmd =>
    rw [State.writeReg, State.writeCmd]
    split <;> exact hs
  | _ => exact hs

/-- A store to the windows of cells clears OUT_VALID; one to the windows of bytes leaves BEST. -/
theorem State.OutputInv.windowStore {s : State} (hs : s.OutputInv) {b : Buf} {a : Addr}
    (hplace : placeOf (wordAddr a) = .window b) (d : Word) : (s.windowStore b (wordAddr a) d).OutputInv := by
  have hvalid := s.windowStore_outValid b (wordAddr a) d
  cases hcells : b.isCells with
  | true => exact .of_invalid (by rw [hvalid, if_pos hcells])
  | false =>
    have hend : b.base + b.size ≤ 0x10000 := by
      cases b with
      | grid | best => cases hcells
      | _ => decide
    obtain ⟨_, hhi⟩ := wordAddr_window_bounds hplace
    refine hs.of_same (fun h => ?_) (by rw [State.windowStore_frame]) fun x hx => ?_
    · rwa [hvalid, hcells] at h
    · exact s.read_windowStore_outside b d (.inr (by omega))

theorem State.OutputInv.hostWrite {s : State} (hs : s.OutputInv) (a : Addr) (d : Word) : (s.hostWrite a d).OutputInv := by
  rcases s.hostWrite_cases a d with ⟨r, _, h⟩ | ⟨b, _, _, h⟩ | ⟨b, hplace, _, h⟩ | ⟨_, h⟩ <;> rw [h]
  · exact hs.writeReg d r
  · exact hs
  · exact hs.windowStore hplace d
  · exact hs

theorem Moved.keeps_outputInv {s t : State} (h : Moved s t) (hs : s.OutputInv) : t.OutputInv := by
  cases h with
  | read a => exact hs.hostRead a
  | write a d => exact hs.hostWrite a d
  | hardReset draw => exact .of_invalid rfl
  | idle | illegal => exact hs
  | command h => exact exec_keeps_outputInv h hs

/-- Settles O59: the invariant does not speak of the script, and every move keeps it. -/
theorem stepKeepsOutputInvariant : Obligations.StepKeepsOutputInvariant := by
  intro s t _ _ hs h
  obtain ⟨rest, hmoved⟩ := step_moved h
  exact hmoved.keeps_outputInv hs

/-! ### Scoring a committed matrix again -/

/-- On a committed matrix MASK_SCORE finds the score that stands in the PEN registers. -/
theorem Committed.bodyMaskScore_eq {p : Pend} {lv : Nat} {t : State} (h : Committed p.v lv t) :
    bodyMaskScore p t = .done t := by
  have hvalid := Grid.anyCell_isInvalid_of_complete (t.readGrid_square .best p.v) h.complete
  have hpen (x : Score) : t.setPenalties x = { t with pen := x.registers } := rfl
  rw [bodyMaskScore, checkVersion_ok h.version, scoreOn, if_neg (by simp [hvalid]), if_pos h.complete, hpen,
    ← h.pen]

/-- Settles O41: a commit that succeeds leaves its score, and scoring leaves all else. -/
theorem rescoringACommitChangesNothing : Obligations.RescoringACommitChangesNothing := by
  intro i s t p q hi hp _ hexec hok hversion
  obtain ⟨u, hbody, rfl⟩ := exec_done_of_ok hp hexec hok
  have hv : q.v = p.v := congrArg BitVec.toNat hversion
  have hcommitted : Committed q.v p.lv { u.completeOk with pend := some q } := { hv ▸ bodyOf_committed hi hbody with }
  exact exec_of_body (i := .maskScore) rfl hcommitted.bodyMaskScore_eq

end Sys2Proof.Machine
end

section
/-! SUPPORT. The results of the mask commands: their checks in order, and the matrix and score they leave
(spec/43_mask.md R402, R403, R410). -/

namespace Sys2Proof.Machine

/-! ### Shared parts -/

theorem State.read_bestAddr_writeGrid {g : Grid} {v r c : Nat} (h : g.Square (size v)) (s : State) (hr : r < size v)
    (hc : c < size v) : (s.writeGrid .best g).mem.read (bestAddr v r c) = (g.get r c).toByte := by
  rw [bestAddr, Nat.add_assoc]
  exact State.read_writeGrid h s .best hr hc

theorem State.get_readGrid_best (s : State) {v r c : Nat} (hr : r < size v) (hc : c < size v) :
    (s.readGrid .best v).get r c = s.bestCell v r c := by
  rw [State.readGrid_get s .best v hr hc, State.bestCell, bestAddr, Nat.add_assoc]
  rfl

theorem State.readGrid_best_eq_tabulate (s : State) (v : Nat) :
    s.readGrid .best v = Grid.tabulate (size v) (s.bestCell v) :=
  Grid.ext_get (s.readGrid_square .best v) (Grid.tabulate_square _ _) fun r c hr hc => by
    rw [s.get_readGrid_best hr hc, Grid.get_tabulate _ hr hc]

theorem checkCandidate_badCell {g h : Grid} (hbad : g.anyCell Cell.isInvalid = true) (s : State) (k : CmdResult) :
    checkCandidate g h s k = .failed .badCell s := if_pos hbad

theorem checkCandidate_incomplete {g h : Grid} (hgood : ¬g.anyCell Cell.isInvalid = true) (hopen : ¬h.complete = true)
    (s : State) (k : CmdResult) : checkCandidate g h s k = .failed .gridIncomplete s := by
  rw [checkCandidate, if_neg hgood, if_neg hopen]

theorem checkCandidate_ok {g h : Grid} (hgood : ¬g.anyCell Cell.isInvalid = true) (hcomplete : h.complete = true)
    (s : State) (k : CmdResult) : checkCandidate g h s k = k := by
  rw [checkCandidate, if_neg hgood, if_pos hcomplete]

/-- A stored candidate stands in the region of BEST, cell by cell. -/
theorem State.read_writeGrid_candidate (s : State) {v r c : Nat} (hr : r < size v) (hc : c < size v) (lv m : Nat) :
    (s.writeGrid .best (candidate (size v) lv m (s.readGrid .grid v))).mem.read (bestAddr v r c) =
      (s.candidateAt v lv m r c).toByte := by
  rw [← s.get_candidate hr hc]
  exact s.read_bestAddr_writeGrid (candidate_square _ _ _ _) hr hc

/-- The state after a commit, field by field. -/
theorem State.completeOk_commit (s : State) (h : Grid) (x : Scored) : (s.commit h x).completeOk =
    { s with
      mem := (s.writeGrid .best h).mem
      bestMask := BitVec.ofNat 3 x.mask
      pen := x.score.registers
      status := { s.status with done := true, outValid := true }
      pend := none } := rfl

theorem State.completeOk_setMaskTotals (s : State) (totals : Nat → Nat) :
    (s.setMaskTotals totals).completeOk = s.completeOk.setMaskTotals totals := rfl

/-- MASK_SELECT's choice in the terms of the statements: the least mask of least total (R412). -/
theorem State.bestMaskOf_choice (s : State) (v lv : Nat) :
    ∃ m < 8, bestMaskOf (size v) lv (s.readGrid .grid v) = ⟨m, s.candidateScore v lv m⟩ ∧ ∀ k < 8,
      (s.candidateScore v lv m).total ≤ (s.candidateScore v lv k).total ∧
        (k < m → (s.candidateScore v lv m).total < (s.candidateScore v lv k).total) := by
  have hself := scoredCandidate_bestMaskOf (size v) lv (s.readGrid .grid v)
  refine ⟨_, bestMaskOf_mask_lt (size v) lv (s.readGrid .grid v), ?_, fun k hk => ?_⟩
  · rw [← s.score_scoredCandidate, hself]
  · rw [← s.score_scoredCandidate, ← s.score_scoredCandidate, hself]
    exact bestMaskOf_least _ _ _ hk

/-! ### The obligations -/

/-- Settles O36: the checks are searches of the region, and the commit is of the candidate the operands name. -/
theorem maskApplyResult : Obligations.MaskApplyResult := by
  intro s p hp v lv m bad complete
  have hbad : (s.readGrid .grid v).anyCell Cell.isInvalid = true ↔ bad := s.anyCell_readGrid v _
  have hcomplete : (candidate (size v) lv m (s.readGrid .grid v)).complete = true ↔ complete :=
    s.candidate_complete_iff_cells v lv m
  have hbody : bodyOf .maskApply p s = checkVersion p s (applyOn (size v) lv m (s.readGrid .grid v) s) := by
    show bodyMaskApply p s = _
    rw [bodyMaskApply, p.mask_eq]
    rfl
  refine ⟨exec_outOfRange hp hbody, fun hv hb => ?badCell, fun hv hb ho => ?incomplete, fun hv hb hc => ?commit⟩
  case badCell =>
    rw [applyOn, checkCandidate_badCell (hbad.2 hb)] at hbody
    exact exec_inRange hp hbody hv
  case incomplete =>
    rw [applyOn, checkCandidate_incomplete (hbad.not.2 hb) (hcomplete.not.2 ho)] at hbody
    exact exec_inRange hp hbody hv
  case commit =>
    rw [applyOn, checkCandidate_ok (hbad.not.2 hb) (hcomplete.2 hc)] at hbody
    have hexec := exec_inRange hp hbody hv
    rw [CmdResult.complete_done, State.completeOk_commit, s.score_scoredCandidate] at hexec
    exact ⟨_, hexec, rfl, fun r c hr hc => s.read_writeGrid_candidate hr hc lv m,
      fun a ha => s.read_writeGrid_outside (candidate_square _ _ _ _) .best ha⟩

/-- Settles O37: BEST's region is the table of its cells. -/
theorem maskScoreResult : Obligations.MaskScoreResult := by
  intro s p hp v bad unfinished
  have hsquare := s.readGrid_square .best v
  have hbad : (s.readGrid .best v).anyCell Cell.isInvalid = true ↔ bad := by
    rw [Grid.anyCell_iff hsquare]
    refine exists₂_congr fun r c => and_congr_right fun hr => and_congr_right fun hc => ?_
    rw [s.get_readGrid_best hr hc]
  have hopen (hb : ¬bad) : ¬(s.readGrid .best v).complete = true ↔ unfinished := by
    rw [Grid.complete_iff hsquare]
    push Not
    refine exists₂_congr fun r c => and_congr_right fun hr => and_congr_right fun hc => ?_
    rw [s.get_readGrid_best hr hc, ne_eq, Bool.not_eq_true, Cell.isComplete_eq_false_iff]
    exact eq_false_of_ne_true fun h => hb ⟨r, c, hr, hc, h⟩
  have hbody : bodyOf .maskScore p s = checkVersion p s (scoreOn (size v) (s.readGrid .best v) s) := rfl
  refine ⟨exec_outOfRange hp hbody, fun hv hb => ?badCell, fun hv hb ho => ?incomplete, fun hv hb ho => ?score⟩
  case badCell =>
    rw [scoreOn, if_pos (hbad.2 hb)] at hbody
    exact exec_inRange hp hbody hv
  case incomplete =>
    rw [scoreOn, if_neg (hbad.not.2 hb), if_neg ((hopen hb).2 ho)] at hbody
    exact exec_inRange hp hbody hv
  case score =>
    rw [scoreOn, if_neg (hbad.not.2 hb), if_pos (not_not.1 ((hopen hb).not.2 ho)), s.readGrid_best_eq_tabulate,
      Grid.values_tabulate] at hbody
    exact exec_inRange hp hbody hv

/-- Settles O38: the choice among the eight candidates is of the least mask of least total, and it is committed. -/
theorem maskSelectResult : Obligations.MaskSelectResult := by
  intro s p hp v lv total bad complete
  have hbad : (s.readGrid .grid v).anyCell Cell.isInvalid = true ↔ bad := s.anyCell_readGrid v _
  have hcomplete : (candidate (size v) lv 0 (s.readGrid .grid v)).complete = true ↔ complete :=
    s.candidate_complete_iff_cells v lv 0
  have hbody : bodyOf .maskSelect p s = checkVersion p s (selectOn (size v) lv (s.readGrid .grid v) s) := rfl
  refine ⟨exec_outOfRange hp hbody, fun hv hb => ?badCell, fun hv hb ho => ?incomplete, fun hv hb hc => ?commit⟩
  case badCell =>
    rw [selectOn, checkCandidate_badCell (hbad.2 hb)] at hbody
    exact exec_inRange hp hbody hv
  case incomplete =>
    rw [selectOn, checkCandidate_incomplete (hbad.not.2 hb) (hcomplete.not.2 ho)] at hbody
    exact exec_inRange hp hbody hv
  case commit =>
    obtain ⟨m, hm, hbest, hleast⟩ := s.bestMaskOf_choice v lv
    rw [selectOn, checkCandidate_ok (hbad.not.2 hb) (hcomplete.2 hc), hbest] at hbody
    have hexec := exec_inRange hp hbody hv
    simp only [s.score_scoredCandidate] at hexec
    rw [CmdResult.complete_done, State.completeOk_setMaskTotals, State.completeOk_commit] at hexec
    exact ⟨_, m, hexec, hm, fun k hk => (hleast k hk).1, fun k hk => (hleast k (hk.trans hm)).2 hk, rfl,
      fun r c hr hc => s.read_writeGrid_candidate hr hc lv m,
      fun a ha => s.read_writeGrid_outside (candidate_square _ _ _ _) .best ha⟩

end Sys2Proof.Machine
end

section
/-! SUPPORT. The penalty rules by position: the recursive scores of lines and of neighbouring rows as sums and counts over
positions (spec/43_mask.md R390 to R394). -/

namespace Sys2Proof.Machine

/-! ### Grids and lines as tables -/

/-- A square grid of values is the table of them. -/
theorem eq_table_valueAt {n : Nat} {x : List (List Bool)} (hlen : x.length = n) (hrows : ∀ row ∈ x, row.length = n) :
    x = (List.range n).map fun r => (List.range n).map (valueAt x r) := by
  refine List.ext_getElem (by simp [hlen]) fun r hr _ => ?_
  refine List.ext_getElem (by simp [hrows _ (List.getElem_mem hr)]) fun c hc _ => ?_
  simp [valueAt, hr, hc]

/-- The columns of a table. -/
theorem columns_eq_table (n : Nat) (x : List (List Bool)) :
    columns n x = (List.range n).map fun c => x.map fun row => row.getD c false := by
  induction n generalizing x with
  | zero => rfl
  | succ n ih =>
    rw [columns, ih, List.range_succ_eq_map, List.map_cons, List.map_map]
    congr 1
    · exact List.map_congr_left fun row _ => by cases row <;> rfl
    · refine List.map_congr_left fun c _ => ?_
      rw [List.map_map]
      exact List.map_congr_left fun row _ => by cases row <;> simp

/-- The lines of a square grid, by position: rows first, then columns. -/
theorem lines_eq_table {n : Nat} {x : List (List Bool)} (hlen : x.length = n) (hrows : ∀ row ∈ x, row.length = n) :
    lines n x = (List.range (2 * n)).map fun l => (List.range n).map (lineAt n x l) := by
  have hx := eq_table_valueAt hlen hrows
  rw [Nat.two_mul, List.range_add, List.map_append, List.map_map, lines]
  congr 1
  · refine hx.trans (List.map_congr_left fun r hr => List.map_congr_left fun c _ => ?_)
    rw [lineAt, if_pos (List.mem_range.1 hr)]
  · rw [columns_eq_table]
    refine List.map_congr_left fun c hc => ?_
    conv_lhs => rw [hx]
    rw [List.map_map]
    refine List.map_congr_left fun r _ => ?_
    have hcolumn : ¬n + c < n := by omega
    simp [lineAt, hcolumn, List.mem_range.1 hc]

/-! ### Runs (R390) -/

theorem maximalRun_iff {n : Nat} {f : Nat → Bool} {i len : Nat} : maximalRun n f i len = true ↔
    i + len ≤ n ∧ (∀ k < len, f (i + k) = f i) ∧ (i = 0 ∨ f (i - 1) ≠ f i) ∧
      (i + len = n ∨ f (i + len) ≠ f i) := by
  simp [maximalRun, and_assoc]

/-- Every position of a run has the value at its start. -/
theorem eq_of_mem_run {f : Nat → Bool} {i len k : Nat} (hsame : ∀ j < len, f (i + j) = f i) (hlo : i ≤ k)
    (hhi : k < i + len) : f k = f i := by
  have h := hsame (k - i) (by omega)
  rwa [Nat.add_sub_cancel' hlo] at h

/-- Two maximal runs that start at one position are the same run. -/
theorem maximalRun_length_le {n : Nat} {f : Nat → Bool} {i len len' : Nat} (h : maximalRun n f i len = true)
    (h' : maximalRun n f i len' = true) : len' ≤ len := by
  obtain ⟨_, _, _, hend⟩ := maximalRun_iff.1 h
  obtain ⟨hfits, hsame, _, _⟩ := maximalRun_iff.1 h'
  by_contra hlt
  rcases hend with hend | hend
  · omega
  · exact hend (hsame len (by omega))

/-- Points of the maximal runs that start at position `i` of a line. -/
def runsStartingAt (n : Nat) (f : Nat → Bool) (i : Nat) : Nat :=
  ∑ len ∈ Finset.range (n + 1), if 5 ≤ len ∧ maximalRun n f i len = true then len - 2 else 0

theorem runsStartingAt_of_maximalRun {n : Nat} {f : Nat → Bool} {i len : Nat} (h : maximalRun n f i len = true) :
    runsStartingAt n f i = runPoints len := by
  obtain ⟨hfits, _⟩ := maximalRun_iff.1 h
  rw [runsStartingAt, Finset.sum_eq_single len]
  · simp [runPoints, h]
  · intro other _ hne
    refine if_neg fun ⟨_, hother⟩ => hne ?_
    exact (maximalRun_length_le h hother).antisymm (maximalRun_length_le hother h)
  · intro hout
    exact absurd (Finset.mem_range.2 (by omega)) hout

/-- No maximal run starts where the value before is the same. -/
theorem runsStartingAt_of_same {n : Nat} {f : Nat → Bool} {i : Nat} (hi : i ≠ 0) (h : f (i - 1) = f i) :
    runsStartingAt n f i = 0 := by
  refine Finset.sum_eq_zero fun len _ => if_neg fun ⟨_, hrun⟩ => ?_
  obtain ⟨_, _, hstart, _⟩ := maximalRun_iff.1 hrun
  exact hstart.elim hi fun hne => hne h

/-- The positions of one maximal run give its points, all at its start. -/
theorem sum_runsStartingAt_run {n : Nat} {f : Nat → Bool} {i len : Nat} (hlen : 1 ≤ len)
    (h : maximalRun n f i len = true) : ∑ k ∈ Finset.Ico i (i + len), runsStartingAt n f k = runPoints len := by
  obtain ⟨_, hsame, _, _⟩ := maximalRun_iff.1 h
  rw [Finset.sum_eq_single i, runsStartingAt_of_maximalRun h]
  · intro k hk hne
    obtain ⟨hlo, hhi⟩ := Finset.mem_Ico.1 hk
    have hvalue : f k = f i := eq_of_mem_run hsame hlo hhi
    have hbefore : f (k - 1) = f i := eq_of_mem_run hsame (by omega) (by omega)
    exact runsStartingAt_of_same (by omega) (hbefore.trans hvalue.symm)
  · intro hout
    exact absurd (Finset.mem_Ico.2 ⟨le_rfl, by omega⟩) hout

/-- The rest of a line from position `i + m` on, where a run that starts at `i` has `m` cells so far. -/
theorem runsFrom_eq_sum {f : Nat → Bool} : ∀ {k m i : Nat}, 1 ≤ m → (∀ j < m, f (i + j) = f i) →
    (i = 0 ∨ f (i - 1) ≠ f i) →
    runsFrom (f i) m ((List.range' (i + m) k).map f) =
      ∑ j ∈ Finset.Ico i (i + m + k), runsStartingAt (i + m + k) f j := by
  intro k
  induction k with
  | zero =>
    intro m i hm hsame hstart
    exact (sum_runsStartingAt_run hm (maximalRun_iff.2 ⟨le_rfl, hsame, hstart, .inl rfl⟩)).symm
  | succ k ih =>
    intro m i hm hsame hstart
    rw [List.range'_succ, List.map_cons, runsFrom]
    have hend : i + m + (k + 1) = i + m + 1 + k := by omega
    rw [hend]
    by_cases hnext : f (i + m) = f i
    · rw [if_pos (by simp [hnext])]
      refine ih (by omega) (fun j hj => ?_) hstart
      rcases Nat.lt_succ_iff_lt_or_eq.1 hj with hj | rfl
      · exact hsame j hj
      · exact hnext
    · have hrun : maximalRun (i + m + 1 + k) f i m = true :=
        maximalRun_iff.2 ⟨by omega, hsame, hstart, .inr hnext⟩
      have hlast : f (i + m - 1) = f i := eq_of_mem_run hsame (by omega) (by omega)
      rw [if_neg (by simp [hnext]), ← sum_runsStartingAt_run hm hrun,
        ih (m := 1) le_rfl (by simp) (.inr (by rw [hlast]; exact Ne.symm hnext)),
        Finset.sum_Ico_consecutive _ (by omega) (by omega)]

theorem lineRuns_eq_sum (n : Nat) (f : Nat → Bool) :
    lineRuns ((List.range n).map f) = ∑ i ∈ Finset.range n, runsStartingAt n f i := by
  cases n with
  | zero => rfl
  | succ n =>
    have h := runsFrom_eq_sum (f := f) (k := n) (m := 1) (i := 0) le_rfl (by simp) (.inl rfl)
    rw [show 0 + 1 + n = n + 1 by omega] at h
    rw [List.range_eq_range', List.range'_succ, List.map_cons, lineRuns, Finset.range_eq_Ico]
    exact h

theorem penaltyRuns_eq_runsByPosition {n : Nat} {x : List (List Bool)} (hlen : x.length = n)
    (hrows : ∀ row ∈ x, row.length = n) : penaltyRuns (lines n x) = runsByPosition n x := by
  rw [penaltyRuns, lines_eq_table hlen hrows, List.map_map]
  exact congrArg List.sum (List.map_congr_left fun l _ => lineRuns_eq_sum n (lineAt n x l))

/-! ### Blocks (R391) -/

/-- A 2×2 block of one value between two rows, its left column at `c`. -/
def isBlock (f g : Nat → Bool) (c : Nat) : Bool := f c == f (c + 1) && f c == g c && f c == g (c + 1)

theorem rowBlocks_eq_countP (f g : Nat → Bool) (k m : Nat) :
    rowBlocks ((List.range' k (m + 1)).map f) ((List.range' k (m + 1)).map g) = (List.range' k m).countP (isBlock f g) := by
  induction m generalizing k with
  | zero => rfl
  | succ m ih =>
    have hrest := ih (k + 1)
    simp only [List.range'_succ, List.map_cons, List.countP_cons] at hrest ⊢
    rw [rowBlocks, hrest, Nat.add_comm, isBlock, Bool.and_assoc]

theorem gridBlocks_eq_sum (F : Nat → List Bool) (k m : Nat) :
    gridBlocks ((List.range' k (m + 1)).map F) = ((List.range' k m).map fun r => rowBlocks (F r) (F (r + 1))).sum := by
  induction m generalizing k with
  | zero => rfl
  | succ m ih =>
    have hrest := ih (k + 1)
    simp only [List.range'_succ, List.map_cons, List.sum_cons] at hrest ⊢
    rw [gridBlocks, hrest]

/-- Counting over a square's coordinates, row by row. -/
theorem countP_coordinates (n : Nat) (q : Nat × Nat → Bool) :
    (coordinates n).countP q = ((List.range n).map fun r => (List.range n).countP fun c => q (r, c)).sum := by
  simp [coordinates, List.countP_flatMap, List.countP_map, Function.comp_def]

theorem gridBlocks_eq_blocksByPosition {n : Nat} {x : List (List Bool)} (hn : 1 ≤ n) (hlen : x.length = n)
    (hrows : ∀ row ∈ x, row.length = n) : gridBlocks x = blocksByPosition n x := by
  obtain ⟨m, rfl⟩ : ∃ m, n = m + 1 := ⟨n - 1, by omega⟩
  rw [blocksByPosition, countP_coordinates, Nat.add_sub_cancel]
  conv_lhs => rw [eq_table_valueAt hlen hrows]
  rw [List.range_eq_range', gridBlocks_eq_sum, List.range_eq_range']
  refine congrArg List.sum (List.map_congr_left fun r _ => ?_)
  exact rowBlocks_eq_countP (valueAt x r) (valueAt x (r + 1)) 0 m

/-! ### Motifs (R392) -/

theorem startsWith_eq_isPrefixOf (p l : List Bool) : startsWith p l = p.isPrefixOf l := by
  induction p generalizing l with
  | nil => rfl
  | cons b p ih =>
    cases l with
    | nil => rfl
    | cons y l => rw [startsWith, ih, List.isPrefixOf]

/-- A list starts with what its first entries are. -/
theorem startsWith_eq_take (p l : List Bool) : startsWith p l = (l.take p.length == p) := by
  rw [startsWith_eq_isPrefixOf, Bool.eq_iff_iff, List.isPrefixOf_iff_prefix, beq_iff_eq, List.prefix_iff_eq_take, eq_comm]

/-- The 11 values of a line from position `k` on are P1 or P2. -/
def isMotif (f : Nat → Bool) (k : Nat) : Bool :=
  (List.range 11).map (fun j => f (k + j)) == motif1 || (List.range 11).map (fun j => f (k + j)) == motif2

theorem startsWith_motif {motif : List Bool} (hmotif : motif.length = 11) (f : Nat → Bool) (k m : Nat) :
    startsWith motif ((List.range' k m).map f) =
      (decide (11 ≤ m) && (List.range 11).map (fun j => f (k + j)) == motif) := by
  rw [startsWith_eq_take, hmotif]
  by_cases hm : 11 ≤ m
  · have hwindow : ((List.range' k m).map f).take 11 = (List.range 11).map fun j => f (k + j) := by
      refine List.ext_getElem (by simp [hm]) fun j _ _ => by simp
    rw [hwindow, decide_eq_true hm, Bool.true_and]
  · rw [decide_eq_false hm, Bool.false_and, beq_eq_false_iff_ne]
    intro h
    have := congrArg List.length h
    simp only [List.length_take, List.length_map, List.length_range', hmotif] at this
    omega

theorem lineMotifs_eq_countP (f : Nat → Bool) (k m : Nat) :
    lineMotifs ((List.range' k m).map f) = (List.range' k (m - 10)).countP (isMotif f) := by
  induction m generalizing k with
  | zero => rfl
  | succ m ih =>
    have hfirst : (startsWith motif1 ((List.range' k (m + 1)).map f) || startsWith motif2 ((List.range' k (m + 1)).map f)) =
        (decide (11 ≤ m + 1) && isMotif f k) := by
      rw [startsWith_motif rfl, startsWith_motif rfl, ← Bool.and_or_distrib_left]
      rfl
    rw [List.range'_succ, List.map_cons] at hfirst ⊢
    rw [lineMotifs, ih, hfirst]
    by_cases hm : 11 ≤ m + 1
    · rw [show m + 1 - 10 = (m - 10) + 1 by omega, List.range'_succ, List.countP_cons, decide_eq_true hm, Bool.true_and,
        Nat.add_comm]
    · rw [show m + 1 - 10 = 0 by omega, show m - 10 = 0 by omega]
      simp [hm]

theorem penaltyMotifs_eq_motifsByPosition {n : Nat} {x : List (List Bool)} (hlen : x.length = n)
    (hrows : ∀ row ∈ x, row.length = n) : penaltyMotifs (lines n x) = 40 * motifsByPosition n x := by
  rw [penaltyMotifs, lines_eq_table hlen hrows, List.map_map]
  refine congrArg (fun l => 40 * List.sum l) (List.map_congr_left fun l _ => ?_)
  have h := lineMotifs_eq_countP (lineAt n x l) 0 n
  rw [← List.range_eq_range', ← List.range_eq_range'] at h
  exact h

/-! ### Dark modules (R393) and the sum (R394) -/

theorem darkCount_eq_darkByPosition {n : Nat} {x : List (List Bool)} (hlen : x.length = n)
    (hrows : ∀ row ∈ x, row.length = n) : darkCount x = darkByPosition n x := by
  rw [darkByPosition, countP_coordinates]
  conv_lhs => rw [eq_table_valueAt hlen hrows]
  simp [darkCount, List.countP_map, Function.comp_def]

/-- Settles O56: each rule's recursion along lines or rows is a sum or a count over positions. -/
theorem penaltyRulesByPosition : Obligations.PenaltyRulesByPosition := by
  intro n x hn hlen hrows q
  refine ⟨penaltyRuns_eq_runsByPosition hlen hrows, ?blocks, penaltyMotifs_eq_motifsByPosition hlen hrows, ?dark, rfl⟩
  case blocks => exact congrArg (3 * ·) (gridBlocks_eq_blocksByPosition (by omega) hlen hrows)
  case dark =>
    have hq : 20 * darkCount x / (n * n) = q := by rw [darkCount_eq_darkByPosition hlen hrows]
    show proportionPoints (darkCount x) (n * n) = _
    rw [proportionPoints, hq, dist_eq_natAbs, dist_eq_natAbs]
    rfl

end Sys2Proof.Machine
end

section
/-! SUPPORT. The bounds of the penalty rules for every symbol size (spec/43_mask.md R395). -/

namespace Sys2Proof.Machine

theorem runPoints_le (m : Nat) : runPoints m ≤ m - 2 := by
  unfold runPoints
  split <;> omega

theorem runsFrom_le (b : Bool) {m : Nat} (hm : 1 ≤ m) (l : List Bool) : runsFrom b m l ≤ m + l.length - 2 := by
  induction l generalizing b m with
  | nil => exact runPoints_le m
  | cons y l ih =>
    rw [runsFrom, List.length_cons]
    split
    · have := ih b (m := m + 1) (by omega)
      omega
    · have := ih y (m := 1) le_rfl
      have := runPoints_le m
      omega

/-- A line has at most one run of its whole length to score. -/
theorem lineRuns_le (l : List Bool) : lineRuns l ≤ l.length - 2 := by
  cases l with
  | nil => rfl
  | cons y l =>
    have := runsFrom_le y (m := 1) le_rfl l
    rwa [Nat.add_comm] at this

theorem sum_map_range_le {f : Nat → Nat} {b : Nat} (n : Nat) (h : ∀ i, f i ≤ b) : ((List.range n).map f).sum ≤ n * b := by
  have hsum := List.sum_le_card_nsmul ((List.range n).map f) b (by simpa using fun i _ => h i)
  simpa using hsum

theorem penaltyRuns_le {n : Nat} {x : List (List Bool)} (hlen : x.length = n) (hrows : ∀ row ∈ x, row.length = n) :
    penaltyRuns (lines n x) ≤ 2 * n * (n - 2) := by
  rw [penaltyRuns, lines_eq_table hlen hrows, List.map_map]
  refine sum_map_range_le _ fun l => ?_
  simpa using lineRuns_le ((List.range n).map (lineAt n x l))

theorem blocksByPosition_le (n : Nat) (x : List (List Bool)) : blocksByPosition n x ≤ (n - 1) * (n - 1) :=
  List.countP_le_length.trans_eq (length_coordinates (n - 1))

theorem motifsByPosition_le (n : Nat) (x : List (List Bool)) : motifsByPosition n x ≤ 2 * n * (n - 10) :=
  sum_map_range_le _ fun _ => List.countP_le_length.trans_eq List.length_range

theorem darkByPosition_le (n : Nat) (x : List (List Bool)) : darkByPosition n x ≤ n * n :=
  List.countP_le_length.trans_eq (length_coordinates n)

theorem proportionPoints_le {dark total : Nat} (h : dark ≤ total) : proportionPoints dark total ≤ 100 := by
  have hq : 20 * dark / total ≤ 20 := Nat.div_le_of_le_mul (by omega)
  show 10 * min (dist (20 * dark / total) 10) (dist (20 * dark / total) 9) ≤ 100
  generalize 20 * dark / total = q at hq ⊢
  unfold dist
  omega

/-- Settles O57: what a line or the coordinates of a square can hold at most, for the largest symbol. -/
theorem penaltyBounds : Obligations.PenaltyBounds := by
  intro n x hlo hhi hlen hrows
  obtain ⟨_, hblocks, hmotifs, _, htotal⟩ := penaltyRulesByPosition n x hlo hlen hrows
  have h1 : (score n x).n1 ≤ 61950 :=
    (penaltyRuns_le hlen hrows).trans (Nat.mul_le_mul (show 2 * n ≤ 354 by omega) (show n - 2 ≤ 175 by omega))
  have h2 : blocksByPosition n x ≤ 30976 :=
    (blocksByPosition_le n x).trans (Nat.mul_le_mul (show n - 1 ≤ 176 by omega) (show n - 1 ≤ 176 by omega))
  have h3 : motifsByPosition n x ≤ 59118 :=
    (motifsByPosition_le n x).trans (Nat.mul_le_mul (show 2 * n ≤ 354 by omega) (show n - 10 ≤ 167 by omega))
  have h4 : (score n x).n4 ≤ 100 :=
    proportionPoints_le (darkCount_eq_darkByPosition hlen hrows ▸ darkByPosition_le n x)
  rw [htotal, hblocks, hmotifs]
  exact ⟨h1, by omega, by omega, h4, by omega⟩

end Sys2Proof.Machine
end

section
/-! SUPPORT. The control commands: NOP, and ENCODE as its five stages in a row (spec/44_control.md R440, R441). -/

namespace Sys2Proof.Machine

/-- Settles O19: NOP's rule is a success on the state as it is, and has no check. -/
theorem nopCompletesWithoutEffect : Obligations.NopCompletesWithoutEffect := by
  intro s p hp
  exact exec_of_body (i := .nop) (k := .done s) hp rfl

/-! ### A command launched where another has completed -/

/-- The state a completion without error leaves, with a command of operands `p` pending. -/
def State.relaunched (s : State) (p : Pend) : State := { s.completeOk with pend := some p }

theorem Effect.apply_relaunched (e : Effect) (s : State) (p : Pend) :
    e.apply (s.relaunched p) = (e.apply s).relaunched p := by
  cases e <;> rfl

theorem State.after_relaunched (es : List Effect) (s : State) (p : Pend) :
    (s.relaunched p).after es = (s.after es).relaunched p := by
  induction es generalizing s with
  | nil => rfl
  | cons e es ih =>
    calc (s.relaunched p).after (e :: es) = (e.apply (s.relaunched p)).after es := rfl
      _ = ((e.apply s).relaunched p).after es := by rw [e.apply_relaunched]
      _ = (s.after (e :: es)).relaunched p := ih (e.apply s)

/-- A rule that succeeds on a state completes there with the same effects after another command's completion: DONE and
PEND are read by no rule. -/
theorem exec_relaunched {i : Instr} {p : Pend} {s u : State} (h : bodyOf i p s = .done u) :
    exec i (s.relaunched p) = .next u.completeOk := by
  have hsame := bodyOf_sameAnswer i p (s := s) (u := s.relaunched p) fun _ _ => rfl
  rw [exec_pending (p := p) rfl]
  rw [h] at hsame
  generalize bodyOf i p (s.relaunched p) = r at hsame
  cases hsame with
  | done es =>
    rw [State.after_relaunched]
    rfl

/-! ### PLACE_DATA on BUILD_FUNC's region -/

/-- RESERVED stands at the format cells only (R328). -/
theorem funcCell_ne_reserved {v r c : Nat} (hformat : formatBitAt (size v) r c = none) : funcCell v r c ≠ .reserved := by
  simp only [funcCell, hformat, Option.isSome_none, Bool.false_eq_true, if_false]
  split
  · nofun
  split
  · nofun
  split
  · next h =>
    obtain ⟨b, rfl⟩ := timingAt_isFunc h
    nofun
  split
  · next h =>
    obtain ⟨b, rfl⟩ := alignAt_isFunc h
    nofun
  split
  · nofun
  cases hfinder : finderAt (size v) r c with
  | none => nofun
  | some x =>
    obtain ⟨b, rfl⟩ := finderAt_isFunc hfinder
    nofun

theorem isInvalid_funcCell (v r c : Nat) : (funcCell v r c).isInvalid = false := by
  rcases funcCell_cases v r c with ⟨b, hcell⟩ | hcell | huncovered
  · rw [hcell]
    rfl
  · rw [hcell]
    rfl
  · rw [huncovered.funcCell]
    rfl

theorem Grid.not_anyCell_isInvalid {g : Grid} {n : Nat} (hg : g.Square n)
    (h : ∀ r c, r < n → c < n → (g.get r c).isInvalid = false) : ¬g.anyCell Cell.isInvalid = true := by
  rw [Grid.anyCell_iff hg]
  rintro ⟨r, c, hr, hc, hbad⟩
  rw [h r c hr hc] at hbad
  cases hbad

/-- The state ENCODE's PLACE_DATA leaves. -/
def encodeFilled (p : Pend) (s : State) : State :=
  ((encodeFramed p s).writeGrid .grid (encodePlaced p s)).setOutValid false

/-- PLACE_DATA passes its checks on BUILD_FUNC's region and INTERLEAVE's stream: the free cells are as many as the bits
(R336). -/
theorem bodyPlaceData_encodeFramed {p : Pend} (hv : versionOk p.v = true) (s : State) :
    bodyPlaceData p.onStream (encodeFramed p s) = .done (encodeFilled p s) := by
  have hvalid : ¬(funcGrid p.v).anyCell Cell.isInvalid = true :=
    Grid.not_anyCell_isInvalid (funcGrid_square p.v) fun r c hr hc => by
      rw [funcGrid, Grid.get_tabulate _ hr hc, isInvalid_funcCell]
  have hcount : (funcGrid p.v).count Cell.isFree = 8 * (cap p.lv p.v).totalCW + (cap p.lv p.v).rem := by
    rw [funcGrid, Grid.count_tabulate, ← length_placementOrder hv, length_placementOrder_eq_stream p.lv_lt hv]
  rw [bodyPlaceData, checkVersion_ok (p := p.onStream) hv, Pend.toNat_onStream_cwBits hv]
  show placeOn p.v _ ((encodeFramed p s).readGrid .grid p.v) _ = _
  rw [readGrid_encodeFramed, placeOn, if_neg hvalid, if_pos hcount]
  rfl

/-! ### MASK_SELECT on the placed region -/

/-- Each cell that no pattern covers has taken a bit of the stream. -/
theorem encodePlaced_of_uncovered {p : Pend} (hv : versionOk p.v = true) (s : State) {r c : Nat} (hr : r < size p.v)
    (hc : c < size p.v) (h : Uncovered p.v r c) : ∃ b, (encodePlaced p s).get r c = .data b := by
  have hmem : (r, c) ∈ placementOrder p.v := (mem_placementOrder hv hr hc).2 (funcCell_isFree_iff_uncovered.2 h)
  obtain ⟨k, hk, hcell⟩ := List.mem_iff_getElem.1 hmem
  rw [length_placementOrder_eq_stream p.lv_lt hv] at hk
  refine ⟨_, placeBits_get_of_free scan_size_bounds (scan_size_nodup p.v) (funcGrid_square p.v) ?_
    ((encodeFramed p s).streamBits_getElem? hk)⟩
  rw [freeIn_funcGrid, ← hcell]
  exact List.getElem?_eq_getElem _

/-- Every other cell is as BUILD_FUNC left it. -/
theorem encodePlaced_of_not_free {p : Pend} (s : State) {r c : Nat} (hr : r < size p.v) (hc : c < size p.v)
    (h : ¬(funcCell p.v r c).isFree = true) : (encodePlaced p s).get r c = funcCell p.v r c := by
  have hmem : (r, c) ∉ (funcGrid p.v).freeIn (scan (size p.v)) := by
    rw [freeIn_funcGrid]
    exact fun hmem => h (List.mem_filter.1 hmem).2
  rw [encodePlaced, placeBits_get_of_not_mem scan_size_bounds (funcGrid_square p.v) _ hmem, funcGrid,
    Grid.get_tabulate _ hr hc]

/-- The region ENCODE places holds no invalid code, and a module value everywhere but in the format cells (R345). -/
theorem encodePlaced_cell {p : Pend} (hv : versionOk p.v = true) (s : State) {r c : Nat} (hr : r < size p.v)
    (hc : c < size p.v) : ((encodePlaced p s).get r c).isInvalid = false ∧
      (formatBitAt (size p.v) r c = none → ((encodePlaced p s).get r c).isComplete = true) := by
  rcases funcCell_cases p.v r c with ⟨b, hcell⟩ | hcell | huncovered
  · rw [encodePlaced_of_not_free s hr hc (by simp [hcell, Cell.isFree]), hcell]
    exact ⟨rfl, fun _ => rfl⟩
  · rw [encodePlaced_of_not_free s hr hc (by simp [hcell, Cell.isFree]), hcell]
    exact ⟨rfl, fun hformat => absurd hcell (funcCell_ne_reserved hformat)⟩
  · obtain ⟨b, hdata⟩ := encodePlaced_of_uncovered hv s hr hc huncovered
    rw [hdata]
    exact ⟨rfl, fun _ => rfl⟩

theorem readGrid_encodeFilled (p : Pend) (s : State) : (encodeFilled p s).readGrid .grid p.v = encodePlaced p s :=
  State.readGrid_writeGrid_same _ .grid (encodePlaced_square p s)

/-- MASK_SELECT passes its checks on the region ENCODE places, and of STATUS sets OUT_VALID only (R410). -/
theorem bodyMaskSelect_encodeFilled {p : Pend} (hv : versionOk p.v = true) (s : State) :
    ∃ u, bodyMaskSelect p (encodeFilled p s) = .done u ∧ u.status = { s.status with outValid := true } := by
  have hvalid : ¬(encodePlaced p s).anyCell Cell.isInvalid = true :=
    Grid.not_anyCell_isInvalid (encodePlaced_square p s) fun r c hr hc => (encodePlaced_cell hv s hr hc).1
  have hcomplete : (candidate (size p.v) p.lv 0 (encodePlaced p s)).complete = true :=
    (candidate_complete_iff _ _ _ _).2 fun r c hr hc => (encodePlaced_cell hv s hr hc).2
  rw [bodyMaskSelect, checkVersion_ok hv, readGrid_encodeFilled, selectOn, checkCandidate_ok hvalid hcomplete]
  exact ⟨_, rfl, rfl⟩

/-! ### ENCODE -/

/-- Settles O39: no stage's check can fail on what the stages before it leave, and no stage reads DONE or PEND. -/
theorem encodeEqualsItsFiveStages : Obligations.EncodeEqualsItsFiveStages := by
  intro s p hp
  refine ⟨fun hrange => ?stages, exec_outOfRange (i := .encode) hp rfl⟩
  have hv : versionOk p.v = true := Pend.versionOk_iff_inRange.2 hrange
  let t1 := rsEncodeEffect (cap p.lv p.v) s
  let t2 := interleaveEffect (cap p.lv p.v) t1
  have hecc : bodyOf .rsEncode p s = .done t1 := checkVersion_ok hv ..
  have hcw : bodyOf .interleave p t1 = .done t2 := checkVersion_ok hv ..
  have hbuild : bodyOf .buildFunc p t2 = .done (encodeFramed p s) := checkVersion_ok hv ..
  have hplace : bodyOf .placeData { p with cwBits := (encodeFramed p s).cwBits } (encodeFramed p s) =
      .done (encodeFilled p s) := bodyPlaceData_encodeFramed hv s
  obtain ⟨u, hselect, hstatus⟩ := bodyMaskSelect_encodeFilled hv s
  have hencode : bodyOf .encode p s = .done u := by
    simp only [bodyOf] at hecc hcw hbuild hplace ⊢
    simp only [bodyEncode, checkVersion_ok hv, encodeStages, hecc, hcw, hbuild, hplace, hselect, CmdResult.andThen_done]
  exact ⟨t1.completeOk, t2.completeOk, (encodeFramed p s).completeOk, (encodeFilled p s).completeOk, u.completeOk,
    exec_of_body hp hecc, exec_relaunched hcw, exec_relaunched hbuild, exec_relaunched hplace,
    exec_relaunched (i := .maskSelect) hselect, exec_of_body hp hencode, congrArg Status.completed hstatus⟩

end Sys2Proof.Machine
end

section
/-! SUPPORT. Completions with an error, the interrupt request, and that every step answers a next state
(spec/60_exceptions.md R500 to R535). -/

namespace Sys2Proof.Machine

/-! ### Errors (R502, R509, R510) -/

/-- Settles O42: the rule of each command that reads VERSION is the version check before all else. -/
theorem badVersionIsCheckedFirst : Obligations.BadVersionIsCheckedFirst := by
  intro i s p hp hreads hbad
  have hout : ¬p.VersionInRange := by omega
  cases i with
  | nop | capFmt | gfMul | gfLog | gfExp | gfGen | rsBlock => cases hreads
  | _ => exact exec_outOfRange hp rfl hout

/-- The answer is no failure with ILLEGAL_CMD, the one error that only the engine's turn raises (R153). -/
inductive CmdResult.NotIllegal : CmdResult → Prop
  | done (s : State) : NotIllegal (.done s)
  | failed {e : ErrorCode} (he : e ≠ .illegalCmd) (s : State) : NotIllegal (.failed e s)

theorem CmdResult.NotIllegal.ite {c : Prop} [Decidable c] {k l : CmdResult} (hk : k.NotIllegal) (hl : l.NotIllegal) :
    (if c then k else l).NotIllegal := by
  split
  · exact hk
  · exact hl

theorem CmdResult.NotIllegal.checkVersion {p : Pend} {s : State} {k : CmdResult} (hk : k.NotIllegal) :
    (checkVersion p s k).NotIllegal :=
  .ite hk (.failed (by decide) s)

theorem CmdResult.NotIllegal.checkCandidate {g h : Grid} {s : State} {k : CmdResult} (hk : k.NotIllegal) :
    (checkCandidate g h s k).NotIllegal :=
  .ite (.failed (by decide) s) (.ite hk (.failed (by decide) s))

/-- The checks of a rule raise the other errors of R501. -/
theorem bodyOf_notIllegal {i : Instr} (hi : i ≠ .encode) (p : Pend) (s : State) : (bodyOf i p s).NotIllegal := by
  cases i with
  | nop | capFmt | gfMul | gfExp => exact .done _
  | capChars | capGeom | capInfo | capCci | rsEncode | interleave | buildFunc => exact .checkVersion (.done _)
  | capVer | freeCount => exact .checkVersion (.ite (.failed (by decide) _) (.done _))
  | gfLog => exact .ite (.failed (by decide) _) (.done _)
  | gfGen | rsBlock => exact .ite (.done _) (.failed (by decide) _)
  | placeData | maskScore =>
    exact .checkVersion (.ite (.failed (by decide) _) (.ite (.done _) (.failed (by decide) _)))
  | maskApply | maskSelect => exact .checkVersion (.checkCandidate (.done _))
  | encode => exact absurd rfl hi

theorem ErrorCode.two_le_code {e : ErrorCode} (he : e ≠ .illegalCmd) : 2 ≤ e.code.toNat := by
  cases e with
  | illegalCmd => exact absurd rfl he
  | _ => decide

/-- A completion that raises ERR is of a rule that failed on the state as it was. -/
theorem exec_eq_completeErr {i : Instr} {s t : State} (hi : i ≠ .encode) (hs : s.status.err = false)
    (h : exec i s = .next t) (ht : t.status.err = true) : ∃ e ≠ ErrorCode.illegalCmd, t = s.completeErr e := by
  obtain ⟨p, _, rfl⟩ := exec_next h
  have hresult := bodyOf_result hi p s
  have herr := (bodyOf_err i p s).trans hs
  have hlegal := bodyOf_notIllegal hi p s
  generalize bodyOf i p s = r at hresult herr hlegal ht ⊢
  cases r with
  | done u => exact absurd (ht.symm.trans herr) (by decide)
  | failed e u =>
    cases hresult
    cases hlegal with
    | failed he => exact ⟨e, he, rfl⟩

/-- Settles O43: a failed rule answers the state as it was, and completion adds ERR and one of the codes 2 to 7. -/
theorem anErrorHasNoEffect : Obligations.AnErrorHasNoEffect := by
  intro i s t hi hs h ht
  obtain ⟨e, he, rfl⟩ := exec_eq_completeErr hi hs h ht
  exact ⟨rfl, ErrorCode.two_le_code he, e.code_bounds.2⟩

/-! ### IRQ (R520) -/

theorem State.irq_iff (s : State) : s.irq = true ↔
    (s.status.done = true ∧ s.ctrl.ieDone = true) ∨ (s.status.err = true ∧ s.ctrl.ieErr = true) := by
  simp [State.irq]

/-- With DONE and ERR both 0 the enables do not matter. -/
theorem State.irq_eq_false {s : State} (hdone : s.status.done = false) (herr : s.status.err = false) :
    s.irq = false := by
  simp [State.irq, hdone, herr]

theorem exec_ctrl {i : Instr} {s t : State} (h : exec i s = .next t) : t.ctrl = s.ctrl :=
  (commandsWriteOnlyTheirRegisters i s t h).1

/-- Settles O16: completions leave the enables alone, enables leave DONE and ERR alone, and what clears IRQ clears both. -/
theorem interruptFollowsStatusAndEnables : Obligations.InterruptFollowsStatusAndEnables := by
  refine ⟨State.irq_iff, fun _ _ _ => rfl, fun i s t h hie hdone => ?completes, fun i s t h hie herr => ?fails,
    fun s hdone => ?enablesDone, fun s herr => ?enablesErr, fun s => ?clears, fun s w hp => ?launches,
    fun _ _ => ⟨rfl, rfl⟩⟩
  case completes => exact t.irq_iff.2 (.inl ⟨hdone, exec_ctrl h ▸ hie⟩)
  case fails => exact t.irq_iff.2 (.inr ⟨herr, exec_ctrl h ▸ hie⟩)
  case enablesDone => exact (State.irq_iff _).2 (.inl ⟨hdone, rfl⟩)
  case enablesErr => exact (State.irq_iff _).2 (.inr ⟨herr, rfl⟩)
  case clears => exact State.irq_eq_false (Bool.and_false _) (Bool.and_false _)
  case launches =>
    have hlaunch : s.hostWrite 0x0000C#17 w = s.launch w := State.writeCmd_idle hp w
    rw [hlaunch]
    exact State.irq_eq_false rfl rfl

/-! ### Totality (R521, R535) -/

/-- The engine's turn completes a pending command and otherwise changes nothing. -/
theorem State.engineMove_answers (s : State) : ∃ t, s.engineMove.answer = .next t := by
  rcases s.engineMove_cases with ⟨_, hmove⟩ | ⟨p, i, hp, _, hmove⟩ | ⟨_, _, _, _, hmove⟩ <;> rw [hmove]
  · exact ⟨_, rfl⟩
  · exact ⟨_, exec_pending hp i⟩
  · exact ⟨_, rfl⟩

theorem step_answers (s : State) : ∃ t, step s = .next t := by
  rw [step_eq_answer]
  cases hs : s.script with
  | nil =>
    rw [State.nextMove_empty hs]
    exact s.engineMove_answers
  | cons e rest =>
    rw [State.nextMove_cons hs]
    cases e with
    | engine => exact State.engineMove_answers _
    | read | write | hardReset => exact ⟨_, rfl⟩

theorem run_succ_of_step {M : Host.Core} {s t : M.State} (h : M.step s = .next t) (k : Nat) :
    M.run (k + 1) s = M.run k t := by
  rw [Host.Core.run, h]

theorem run_answers (k : Nat) (s : State) : ∃ t : State, Sys2Proof.core.run k s = .next t := by
  induction k generalizing s with
  | zero => exact ⟨s, rfl⟩
  | succ k ih =>
    obtain ⟨t, ht⟩ := step_answers s
    obtain ⟨u, hu⟩ := ih t
    exact ⟨u, (run_succ_of_step (M := Sys2Proof.core) ht k).trans hu⟩

theorem exec_idle {s : State} (hp : s.pend = none) (i : Instr) : exec i s = .fault .nothingPending := by
  rw [exec_eq_runCommand, State.runCommand, hp]

/-- Settles O17: a step runs a command only where one is pending, and then its rule answers. -/
theorem stepAlwaysAnswersANextState : Obligations.StepAlwaysAnswersANextState := by
  refine ⟨step_answers, run_answers, fun i s hp => exec_idle hp i, fun i s hp => ?_⟩
  obtain ⟨p, hp⟩ := Option.ne_none_iff_exists'.1 hp
  exact ⟨_, exec_pending hp i⟩

end Sys2Proof.Machine
end

section
/-! SUPPORT. The two resets, the draw of the buffers, and how long a command can stay pending
(spec/70_reset_and_hazards.md R551 to R553, R580, R582). -/

namespace Sys2Proof.Machine

/-! ### The registers after a reset (R551, R553) -/

/-- Settles O10: every reset is `State.reset` but for the buffers and the model's own fields, and of CTRL's writes only
bit 31 asks for one. -/
theorem resetsSetEveryRegister : Obligations.ResetsSetEveryRegister := by
  refine ⟨fun s d hd => ?soft, fun s d hd => ?enables, fun _ _ => rfl, fun _ => ⟨_, rfl⟩, ⟨_, rfl⟩, fun _ _ _ => ⟨rfl, rfl⟩⟩
  case soft =>
    obtain ⟨_, hreset, _⟩ := registerWritesAsTabled s d
    rw [hreset hd]
    refine ⟨rfl, rfl, fun w => ?_⟩
    obtain ⟨_, _, _, hlaunch, _⟩ := registerWritesAsTabled s.softReset w
    exact hlaunch rfl
  case enables =>
    obtain ⟨henables, _⟩ := registerWritesAsTabled s d
    exact henables hd

/-! ### The invariants at reset (R551, R552) -/

theorem State.reset_memInv : State.reset.MemInv := ⟨State.reset_mem_wf, nofun⟩

/-- Settles O60: a power-on is a hardware reset of `State.reset`, and that move keeps the invariants. -/
theorem resetMeetsTheInvariants : Obligations.ResetMeetsTheInvariants := by
  have hstatus : State.reset.StatusInv := State.reset.softReset_statusInv
  have hpend : State.reset.PendInv := .of_idle rfl
  have houtput : State.reset.OutputInv := .of_invalid rfl
  refine ⟨⟨State.reset_memInv, hstatus, hpend, houtput⟩, fun draw => ?_⟩
  have hmoved : Moved State.reset (State.powerOn draw) := .hardReset draw
  obtain ⟨hstatus', hpend'⟩ := hmoved.keeps_statusInv hstatus hpend
  exact ⟨hmoved.keeps_memInv State.reset_memInv, hstatus', hpend', hmoved.keeps_outputInv houtput⟩

/-! ### The draw of the buffers (R552) -/

/-- Legal buffers list nothing outside the windows. -/
theorem Memory.Legal.read_outside {m : Memory} (hm : m.Legal) {k : Nat} (hk : bufAt k = none) :
    m.read k = Memory.unlisted := by
  refine Memory.read_of_forall_ne fun c hc heq => ?_
  have hentry := hm.2 c hc
  rw [entryOk, heq, hk] at hentry
  cases hentry

/-- Drawing the byte that `n` holds at an address makes that address, and no other, read as in `n`. -/
theorem Memory.Legal.read_drawOne {m n : Memory} (hm : m.Legal) (hn : n.Legal) (a k : Nat) :
    (m.drawOne (a, n.read a)).read k = if a = k then n.read k else m.read k := by
  unfold Memory.drawOne
  split
  · next b hb =>
    rw [hn.lane_read hb, Memory.read_writeRange, List.length_singleton]
    by_cases hak : a = k
    · subst hak
      simp
    · rw [if_neg (by omega), if_neg hak]
  · next hout =>
    split
    · next hak =>
      subst hak
      rw [hm.read_outside hout, hn.read_outside hout]
    · rfl

/-- A draw of bytes of `n` makes the drawn addresses read as in `n` and leaves the others. -/
theorem Memory.Legal.read_drawn {m n : Memory} (hm : m.Legal) (hn : n.Legal) (as : List Nat) (k : Nat) :
    (m.drawn (as.map fun a => (a, n.read a))).read k = if k ∈ as then n.read k else m.read k := by
  induction as generalizing m with
  | nil => rfl
  | cons a as ih =>
    calc (m.drawn ((a :: as).map fun a => (a, n.read a))).read k
        = if k ∈ as then n.read k else (m.drawOne (a, n.read a)).read k := ih (hm.drawOne _)
      _ = if k ∈ a :: as then n.read k else m.read k := by
        rw [hm.read_drawOne hn]
        grind

/-- Legal contents come from any legal contents by the draw of every byte that either lists. -/
theorem Memory.Legal.exists_drawn_eq {m n : Memory} (hm : m.Legal) (hn : n.Legal) : ∃ draw, m.drawn draw = n := by
  refine ⟨(m.map Prod.fst ++ n.map Prod.fst).map fun a => (a, n.read a), ?_⟩
  refine Memory.wf_ext (hm.drawn _).1 hn.1 fun k => ?_
  rw [hm.read_drawn hn]
  split
  · rfl
  · next hk =>
    rw [List.mem_append, not_or] at hk
    obtain ⟨hkm, hkn⟩ := hk
    rw [Memory.read_of_forall_ne fun c hc heq => hkm (List.mem_map.2 ⟨c, hc, heq⟩),
      Memory.read_of_forall_ne fun c hc heq => hkn (List.mem_map.2 ⟨c, hc, heq⟩)]

/-- Settles O11: a hardware reset draws over the contents before it, power-on over buffers that list nothing. -/
theorem everyBufferContentsCanBeDrawn : Obligations.EveryBufferContentsCanBeDrawn :=
  fun _ _ hs hm => ⟨Memory.Legal.exists_drawn_eq hs hm, Memory.Legal.exists_drawn_eq State.reset_memInv hm⟩

/-! ### A pending command's time (R580, R582) -/

@[simp] theorem State.hostRead_script (s : State) (a : Addr) : (s.hostRead a).script = s.script := by
  rcases s.afterRead_cases a with h | h <;> simp [State.hostRead, h]

@[simp] theorem State.writeReg_script (s : State) (d : Word) (r : Reg) : (s.writeReg d r).script = s.script := by
  cases r with
  | ctrl => rcases s.writeCtrl_cases d with ⟨_, h⟩ | ⟨_, h⟩ <;> simp [State.writeReg, h]
  | cmd =>
    rw [State.writeReg, State.writeCmd]
    split <;> rfl
  | _ => rfl

@[simp] theorem State.hostWrite_script (s : State) (a : Addr) (d : Word) : (s.hostWrite a d).script = s.script := by
  rcases s.hostWrite_cases a d with ⟨r, _, h⟩ | ⟨b, _, _, h⟩ | ⟨b, _, _, h⟩ | ⟨_, h⟩ <;> rw [h]
  · exact s.writeReg_script d r
  · rfl
  · rw [State.windowStore_frame]

/-- After the engine's turn nothing is pending. -/
theorem State.engineMove_pend {s t : State} (h : s.engineMove.answer = .next t) : t.pend = none := by
  rcases s.engineMove_cases with ⟨hp, hmove⟩ | ⟨_, i, _, _, hmove⟩ | ⟨_, _, _, _, hmove⟩ <;> rw [hmove] at h
  · cases h
    exact hp
  · obtain ⟨_, _, rfl⟩ := exec_next (i := i) h
    exact CmdResult.complete_pend _
  · cases h
    rfl

/-- With no move left in the script a step is the engine's turn. -/
theorem step_pend_of_script_nil {s t : State} (hs : s.script = []) (h : step s = .next t) : t.pend = none := by
  rw [step_eq_answer, State.nextMove_empty hs] at h
  exact State.engineMove_pend h

/-- A step with moves left is the engine's turn or leaves one move fewer. -/
theorem step_pend_or_script_of_script_cons {s t : State} {e : Event} {rest : List Event} (hs : s.script = e :: rest)
    (h : step s = .next t) : t.pend = none ∨ t.script = rest := by
  rw [step_eq_answer, State.nextMove_cons hs] at h
  cases e with
  | read a =>
    cases h
    exact .inr (State.hostRead_script _ a)
  | write a d =>
    cases h
    exact .inr (State.hostWrite_script _ a d)
  | engine => exact .inl (State.engineMove_pend h)
  | hardReset draw =>
    cases h
    exact .inr rfl

/-- Whatever stands pending is gone within one step more than the script has moves. -/
theorem run_reaches_idle {script : List Event} {s : State} (hs : s.script = script) :
    ∃ (k : Nat) (t : State), k ≤ script.length + 1 ∧ Sys2Proof.core.run k s = .next t ∧ t.pend = none := by
  induction script generalizing s with
  | nil =>
    obtain ⟨t, ht⟩ := step_answers s
    exact ⟨1, t, le_rfl, run_succ_of_step (M := Sys2Proof.core) ht 0, step_pend_of_script_nil hs ht⟩
  | cons e rest ih =>
    obtain ⟨t, ht⟩ := step_answers s
    have hrun := run_succ_of_step (M := Sys2Proof.core) ht
    rcases step_pend_or_script_of_script_cons hs ht with hidle | hrest
    · exact ⟨1, t, Nat.le_add_left 1 _, hrun 0, hidle⟩
    · obtain ⟨k, u, hk, hu, hidle⟩ := ih hrest
      exact ⟨k + 1, u, Nat.succ_le_succ hk, (hrun k).trans hu, hidle⟩

/-- Settles O18: each move of the script is used up once, and the completion follows where none is left. -/
theorem pendingCommandIsGoneWithinTheScript : Obligations.PendingCommandIsGoneWithinTheScript :=
  fun _ _ _ => run_reaches_idle rfl

end Sys2Proof.Machine
end
